-- ==== Sys2Proof/Word.lean ====
section
/-! DEFINITION. The two word types of the block: a byte of a frame, a FIFO or a buffer, and the 32-bit host word
(00_scope.md R11, R12). -/

namespace Sys2Proof

/-- One byte: of a frame, of the FIFO, of a buffer, or on the line (10_state.md R102). -/
abbrev Byte := BitVec 8

/-- One host data word, 32 bits (00_scope.md R11); a command word is one (30_encoding.md R320). -/
abbrev Word := BitVec 32

end Sys2Proof
end

