-- ==== Sys2Proof/Syntax.lean ====
section
/-! DEFINITION. The instruction set: the eight legal command words of 30_encoding.md R321, one constructor per row of
spec/opcode_table.json. Register numbers and addresses do not occur: every operand but RESPOND's ARG comes from the
registers a rule names (R320). -/

namespace Sys2Proof

/-- A command of the block (30_encoding.md R321). -/
inductive Instr where
  /-- 0x0, no operation (40_frame_codec.md R425). -/
  | nop
  /-- 0x1, open the line (41_transport.md R511). -/
  | connect
  /-- 0x2, close the line (41_transport.md R512). -/
  | disconnect
  /-- 0x3, encode and transmit one frame (41_transport.md R513). -/
  | send
  /-- 0x4, reconstruct and validate one frame (41_transport.md R514). -/
  | receive
  /-- 0x5, send a request, then receive and classify the response (42_engine.md R610). -/
  | transact
  /-- 0x6, send a response with the status code `rtn`, the word's ARG byte (42_engine.md R611). -/
  | respond (rtn : Byte)
  /-- 0x7, check the frame image in RXBUF (40_frame_codec.md R420). -/
  | validate
  deriving DecidableEq, Repr

end Sys2Proof
end

