-- ==== Sys2Proof/WellFormed.lean ====
section
/-! DEFINITION. The four checks of 30_encoding.md R322 on the fields of a command word (R320), and what they say of an
instruction. The type of `Instr` already bounds RESPOND's ARG to a byte; `Instr.wf` says that the fields an instruction
stands for pass the four checks. The decoder is written without them, so that the two can be compared. -/

namespace Sys2Proof

/-- OP is one of the eight opcodes: 0x8 to 0xF are reserved (R321, R322). -/
def opAssigned (op : BitVec 4) : Bool := decide (op.toNat < 8)

/-- Bits [7:4] are 0 (R320, R322). -/
def lowReservedClear (low : BitVec 4) : Bool := low == 0#4

/-- Bits [31:16] are 0 (R320, R322). -/
def highReservedClear (high : BitVec 16) : Bool := high == 0#16

/-- ARG is 0 unless OP is RESPOND's 0x6 (R320, R322). -/
def argAllowed (op : BitVec 4) (arg : Byte) : Bool := arg == 0#8 || op == 6#4

/-- The fields OP, [7:4], ARG, [31:16] of a legal command word (R322). -/
def fieldsLegal (op low : BitVec 4) (arg : Byte) (high : BitVec 16) : Bool :=
  opAssigned op && lowReservedClear low && highReservedClear high && argAllowed op arg

/-- A legal command word: the negation of R322's `illegal(w)`, which 41_transport.md R510 reads. -/
def wordLegal (w : Word) : Bool :=
  fieldsLegal (w.extractLsb' 0 4) (w.extractLsb' 4 4) (w.extractLsb' 8 8) (w.extractLsb' 16 16)

/-- The opcode of an instruction (R321). -/
def Instr.opcode : Instr → BitVec 4
  | .nop => 0x0#4
  | .connect => 0x1#4
  | .disconnect => 0x2#4
  | .send => 0x3#4
  | .receive => 0x4#4
  | .transact => 0x5#4
  | .respond _ => 0x6#4
  | .validate => 0x7#4

/-- The ARG byte of an instruction: 0 for every opcode but RESPOND (R320). -/
def Instr.arg : Instr → Byte
  | .nop => 0#8
  | .connect => 0#8
  | .disconnect => 0#8
  | .send => 0#8
  | .receive => 0#8
  | .transact => 0#8
  | .respond rtn => rtn
  | .validate => 0#8

/-- An instruction whose fields make a legal command word (R320 to R322). -/
def Instr.wf (i : Instr) : Bool := fieldsLegal i.opcode 0#4 i.arg 0#16

end Sys2Proof
end

