-- ==== Sys2Proof/Decode.lean ====
section
/-! DEFINITION. The decoder of command words, total on all 2^32 words and rejecting by name, and the encoder
(30_encoding.md R320 to R323). A command word is one 32-bit value written to CMD by one 4-byte host write, so the word is
decoded as it stands on the data lanes; no byte order enters (20_memory.md R205). -/

namespace Sys2Proof

/-- Why a command word is illegal (30_encoding.md R322). A word with several reasons is named by the first in this
order; the block does not tell them apart (log 11). -/
inductive DecodeError where
  /-- Bits [7:4] are not 0. -/
  | reservedLow
  /-- Bits [31:16] are not 0. -/
  | reservedHigh
  /-- OP is 0x8 to 0xF. -/
  | reservedOpcode
  /-- ARG is not 0 and OP is not 0x6. -/
  | argNotZero
  deriving DecidableEq, Repr

/-- What a command word decodes to: an instruction, or a rejection by name. -/
inductive Decoded where
  | instr (i : Instr)
  | reject (why : DecodeError)
  deriving DecidableEq, Repr

/-- OP, bits [3:0] of a command word (R320). -/
def wordOp (w : Word) : BitVec 4 := w.extractLsb' 0 4

/-- ARG, bits [15:8] of a command word (R320). -/
def wordArg (w : Word) : Byte := w.extractLsb' 8 8

/-- The instruction `i`, whose word has no argument: legal only with ARG = 0 (R320, R322). -/
def withoutArg (arg : Byte) (i : Instr) : Decoded :=
  if arg = 0#8 then .instr i else .reject .argNotZero

/-- The opcode map of R321, with ARG given to RESPOND alone. -/
def decodeOp (op : BitVec 4) (arg : Byte) : Decoded :=
  match op.toNat with
  | 0 => withoutArg arg .nop
  | 1 => withoutArg arg .connect
  | 2 => withoutArg arg .disconnect
  | 3 => withoutArg arg .send
  | 4 => withoutArg arg .receive
  | 5 => withoutArg arg .transact
  | 6 => .instr (.respond arg)
  | 7 => withoutArg arg .validate
  | _ => .reject .reservedOpcode

/-- Decode a command word (R320 to R322). -/
def decode (w : Word) : Decoded :=
  if w.extractLsb' 4 4 ≠ 0#4 then .reject .reservedLow
  else if w.extractLsb' 16 16 ≠ 0#16 then .reject .reservedHigh
  else decodeOp (wordOp w) (wordArg w)

/-- The command word of an instruction (R323). -/
def encode : Instr → Word
  | .nop => 0x00000000#32
  | .connect => 0x00000001#32
  | .disconnect => 0x00000002#32
  | .send => 0x00000003#32
  | .receive => 0x00000004#32
  | .transact => 0x00000005#32
  | .respond rtn => 0x00000006#32 ||| (rtn.setWidth 32 <<< 8)
  | .validate => 0x00000007#32

/-- The instruction of a decoding, if there is one. -/
def Decoded.instr? : Decoded → Option Instr
  | .instr i => some i
  | .reject _ => none

/-- The instruction read from a table row's bits `w`, numbered as spec/opcode_table.json numbers them: the command word is
one 32-bit word and its bit 0 is the least significant (00_scope.md R12). Bits at or above `nbits` are 0. -/
def decodeTableWord (nbits w : Nat) : Option Instr :=
  (decode (BitVec.ofNat 32 (w % 2 ^ nbits))).instr?

end Sys2Proof
end

