-- ==== Sys2Proof/Machine/Codec.lean ====
section
/-! DEFINITION. The pure functions of the frame codec: lenfield, lchk, chksum, encode, validate (40_frame_codec.md R400 to
R410), the RTN class (42_engine.md R602), and the fixed parameters they use (00_scope.md R8, R9). All are exact integer
computations narrowed at the end (R407). -/

namespace Sys2Proof.Machine

/-- SOI, the start marker (00_scope.md R8). -/
def soi : Byte := 0x7E#8

/-- EOI, the end marker (00_scope.md R8). -/
def eoi : Byte := 0x0D#8

/-- MAX_LEN, the largest payload in bytes (00_scope.md R8). -/
def maxLen : Nat := 4095

/-- MIN_FRAME and FRAME_OVERHEAD (00_scope.md R9). -/
def minFrame : Nat := 10

/-- MAX_FRAME (00_scope.md R9). -/
def maxFrame : Nat := 4105

/-- `(-a) mod m` (00_scope.md R12). -/
def negMod (a m : Nat) : Nat := (m - a % m) % m

/-- The low byte of a payload length, `n & 0xFF` (40_frame_codec.md R401). -/
def lenLow (n : Nat) : Nat := n % 256

/-- The high nibble of a payload length, `(n >> 8) & 0x0F` (R401). -/
def lenHigh (n : Nat) : Nat := n / 256 % 16

/-- The length checksum (R402); the third addend is the whole length. -/
def lchk (n : Nat) : BitVec 4 := BitVec.ofNat 4 (negMod (lenLow n + lenHigh n + n) 16)

/-- The length field, frame bytes 5 and 6 (R401). -/
def lenField (n : Nat) : List Byte :=
  [lchk n ++ BitVec.ofNat 4 (lenHigh n), BitVec.ofNat 8 (lenLow n)]

/-- `sum(s)`, the integer sum of the bytes of s (00_scope.md R13). -/
def sumBytes : List Byte → Nat
  | [] => 0
  | b :: s => b.toNat + sumBytes s

/-- The frame checksum (R403). -/
def chksum (s : List Byte) : BitVec 16 := BitVec.ofNat 16 (negMod (sumBytes s) 65536)

/-- The bytes the checksum covers, frame indices 1 to 6+n (R404). -/
def frameBody (ver adr c1 c2 : Byte) (p : List Byte) : List Byte :=
  [ver, adr, c1, c2] ++ lenField p.length ++ p

/-- A 16-bit value as two bytes, the high one first (20_memory.md R203). -/
def bigEndian (c : BitVec 16) : List Byte := [c.extractLsb' 8 8, c.extractLsb' 0 8]

/-- Frame encoding (R404). -/
def encodeFrame (ver adr c1 c2 : Byte) (p : List Byte) : List Byte :=
  [soi] ++ frameBody ver adr c1 c2 p ++ bigEndian (chksum (frameBody ver adr c1 c2 p)) ++ [eoi]

/-- LENID, the 12 bits `{hi[3:0], lo}` of the length field (30_encoding.md R302). -/
def lenId (hi lo : Byte) : BitVec 12 := hi.extractLsb' 0 4 ++ lo

/-- LCHKSUM, the nibble `hi[7:4]` of the length field (30_encoding.md R302). -/
def lchkNibble (hi : Byte) : BitVec 4 := hi.extractLsb' 4 4

/-- Byte `i` of a frame image; every rule reads it only inside the image. -/
def at0 (img : List Byte) (i : Nat) : Byte := img.getD i 0#8

/-- The image bytes `buf[1 .. L-4]` that the checksum covers (R410 step 6). -/
def imgBody (img : List Byte) : List Byte := (img.drop 1).take (img.length - 4)

/-- The received checksum `{buf[L-3], buf[L-2]}` (R410 step 6). -/
def imgChk (img : List Byte) : BitVec 16 := at0 img (img.length - 3) ++ at0 img (img.length - 2)

/-- The result codes (60_exceptions.md R700). -/
def codeOk : Byte := 0x00#8
def codeVersionMismatch : Byte := 0x01#8
def codeChecksumMismatch : Byte := 0x02#8
def codeLchksumMismatch : Byte := 0x03#8
def codeMalformedMarker : Byte := 0x04#8
def codeReceiveTimeout : Byte := 0x05#8
def codeNoResponse : Byte := 0x06#8
def codeDeviceError : Byte := 0x07#8
def codeCannotOpen : Byte := 0x08#8
def codeWriteFailure : Byte := 0x09#8
def codeReadFailure : Byte := 0x0A#8
def codeNotConnected : Byte := 0x0B#8
def codeLengthOverflow : Byte := 0x0C#8
def codeIllegalCommand : Byte := 0x0D#8
def codeAborted : Byte := 0x0E#8

/-- Frame validation of an image of length L against a version byte: a result code and the length-error kind (R410, in
R410's order of checks). -/
def validateImage (img : List Byte) (ver : Byte) : Byte × Bool :=
  if img.length = 0 ∨ at0 img 0 ≠ soi ∨ at0 img (img.length - 1) ≠ eoi then (codeMalformedMarker, false)
  else if img.length < minFrame then (codeLchksumMismatch, true)
  else if at0 img 1 ≠ ver then (codeVersionMismatch, false)
  else if lchkNibble (at0 img 5) ≠ lchk (lenId (at0 img 5) (at0 img 6)).toNat then (codeLchksumMismatch, false)
  else if img.length ≠ minFrame + (lenId (at0 img 5) (at0 img 6)).toNat then (codeLchksumMismatch, true)
  else if imgChk img ≠ chksum (imgBody img) then (codeChecksumMismatch, false)
  else (codeOk, false)

/-- The RTN class of a response's CID2 byte (42_engine.md R602). -/
def rtnClassOf (r : Byte) : BitVec 4 :=
  match r.toNat with
  | 0x00 => 0#4
  | 0x01 => 1#4
  | 0x02 => 2#4
  | 0x03 => 3#4
  | 0x04 => 4#4
  | 0x05 => 5#4
  | 0x06 => 6#4
  | n => if 0x80 ≤ n ∧ n ≤ 0xEF then 7#4 else 8#4

end Sys2Proof.Machine
end

