-- ==== Sys2Proof/Machine/Event.lean ====
section
/-! DEFINITION. The atomic steps the agents take (10_state.md R100, 41_transport.md R500), what the block puts out on the
PHY side (10_state.md R102), and the response a host access gets (10_state.md R101). -/

namespace Sys2Proof.Machine

/-- One atomic step of an agent (10_state.md R100, R105; the table of 41_transport.md R500). -/
inductive Event where
  /-- `HostRead(a, n)`: the host reads `n` bytes at window address `a` (20_memory.md R206). -/
  | hostRead (a : BitVec 16) (n : Nat)
  /-- `HostWrite(a, n, v)`: the host writes the low `n` bytes of `v` (20_memory.md R206). -/
  | hostWrite (a : BitVec 16) (n : Nat) (v : Word)
  /-- The PHY delivers a received byte (R530). -/
  | rxByte (b : Byte)
  /-- The PHY accepts the presented byte (R532). -/
  | txAccept
  /-- The pending open request succeeded (R501). -/
  | openOk
  /-- The pending open request failed (R502). -/
  | openFail
  /-- The open line failed (R504). -/
  | ioError
  /-- One unit of time passes (R503, R545). -/
  | tick
  /-- Internal: one FIFO byte is consumed in an RX phase (R540). -/
  | rxConsume
  /-- Internal: one byte is looped back in a TX phase (R531). -/
  | lbEmit
  /-- The reset input (70_reset_and_hazards.md R800). -/
  | reset
  deriving DecidableEq, Repr, Inhabited

/-- One output of the block on the PHY side (10_state.md R102). -/
inductive PhyOut where
  /-- `emit(b)`: a byte goes on the line. -/
  | emit (b : Byte)
  /-- `open_req(cfg)`: a request to open the line with the LINECFG value `cfg`. -/
  | openReq (cfg : Word)
  /-- `close_req()`: a request to close the line. -/
  | closeReq
  deriving DecidableEq, Repr

/-- The response to a host access (10_state.md R101). -/
inductive BusResp where
  /-- No access has been made since the machine came up. -/
  | none
  /-- A read's data, zero-extended to 32 bits. -/
  | data (v : Word)
  /-- A write's completion. -/
  | done
  /-- The bus-error response (20_memory.md R208). -/
  | busError
  deriving DecidableEq, Repr

end Sys2Proof.Machine
end

