-- ==== Sys2Proof/Config.lean ====
section
/-! DEFINITION. What the spec leaves open: the two OPEN parameters (00_scope.md R10) and the free values. Each is an opaque
constant: Lean can prove no value of it, so a theorem holds whatever it is. -/

namespace Sys2Proof

/-- VER_RESET, the reset value of CFG_VER.VER (00_scope.md R10; 93 I1; log 3). -/
opaque Config.verReset : Byte

/-- RXFIFO_DEPTH less one: every depth from 1 to 65535 is a value of it (00_scope.md R10; 93 I2; log 3). -/
opaque Config.rxfifoDepthPred : Fin 65535

/-- RXFIFO_DEPTH, from 1 to 65535 (00_scope.md R10). -/
def Config.rxfifoDepth : Nat := Config.rxfifoDepthPred.val + 1

/-- The byte drawn at reset number `epoch` for the buffer byte at window offset `a`
(70_reset_and_hazards.md R801, "a model draws the bytes freely at reset"; 93 I4; log 4). -/
opaque Config.bufDraw (epoch a : Nat) : Byte

/-- The step the environment takes at its `k`-th free draw (10_state.md R103, "unconstrained draws"; 93 I5; log 1). -/
opaque Config.envDraw (k : Nat) : Machine.Event

end Sys2Proof
end

