-- ==== Sys2Proof/Machine/State.lean ====
section
/-! DEFINITION. The state of the block: every register of 10_state.md R110 to R133 that holds state, the two buffers
(R140, R141), the hidden state (R150 to R154), the two parameters (R156), and the model's own record of the environment.
Views (RX_HDR, RX_LENFIELD, RX_CHK, RXFIFO_LEVEL), the constant ID and the write-only CMD hold no state and are computed in
Machine/Registers.lean. -/

namespace Sys2Proof.Machine

/-- STATUS.LINK: 0, 1, 2; the value 3 never occurs (10_state.md R113). -/
inductive Link where
  | disconnected
  | connecting
  | connected
  deriving DecidableEq, Repr

/-- STATUS.PHASE: 0, 1, 2, 3 (10_state.md R113). -/
inductive Phase where
  | none
  | opening
  | tx
  | rx
  deriving DecidableEq, Repr

/-- STATUS.RXST: 0, 1, 2; the value 3 never occurs (10_state.md R113). -/
inductive RxState where
  | idle
  | hunt
  | collect
  deriving DecidableEq, Repr

/-- The two parameters of the step relation (00_scope.md R10, 10_state.md R156). No step changes them. -/
structure Params where
  /-- VER_RESET -/
  verReset : Byte
  /-- RXFIFO_DEPTH -/
  rxfifoDepth : Nat
  deriving DecidableEq, Repr

/-- The registers that only a host write changes (10_state.md R111, R116 to R124). -/
structure HostRegs where
  /-- CTRL.AUTO_RTN (R111) -/
  autoRtn : Bool
  /-- CTRL.LOOPBACK (R111) -/
  loopback : Bool
  /-- INT_ENABLE [5:0] (R116) -/
  intEnable : BitVec 6
  /-- CFG_VER.VER (R117) -/
  cfgVer : Byte
  /-- LINECFG (R118) -/
  lineCfg : Word
  /-- TMO_BYTE (R119) -/
  tmoByte : BitVec 16
  /-- RETRY_LIMIT (R120) -/
  retryLimit : BitVec 8
  /-- TMO_FRAME (R121) -/
  tmoFrame : BitVec 24
  /-- RECONN_IVL (R122) -/
  reconnIvl : BitVec 16
  /-- TX_HDR [23:0]: ADR, CID1, CID2 (R123) -/
  txHdr : BitVec 24
  /-- TX_LEN (R124) -/
  txLen : BitVec 16
  deriving DecidableEq, Repr

/-- STATUS (10_state.md R113). -/
structure Status where
  busy : Bool
  link : Link
  armed : Bool
  phase : Phase
  rxst : RxState
  op : BitVec 4
  deriving DecidableEq, Repr

/-- RESULT (10_state.md R114). -/
structure ResultReg where
  code : Byte
  rtnClass : BitVec 4
  lenErrKind : Bool
  autoRtnFail : Bool
  deriving DecidableEq, Repr

/-- The four event counters (10_state.md R129 to R132). -/
structure Counters where
  /-- CNT_SKIP -/
  skip : BitVec 16
  /-- CNT_DISCARD -/
  discard : BitVec 16
  /-- CNT_ATTEMPT -/
  attempt : BitVec 8
  /-- CNT_FRAMES_OK -/
  framesOk : BitVec 16
  deriving DecidableEq, Repr

/-- Transmit sequencing, tx_img and tx_idx (10_state.md R150). -/
structure TxSeq where
  img : List Byte
  idx : Nat
  deriving DecidableEq, Repr

/-- Receive sequencing, rx_idx and rx_need (10_state.md R151). -/
structure RxSeq where
  idx : Nat
  need : Nat
  deriving DecidableEq, Repr

/-- The three saturating timers (10_state.md R153). -/
structure Timers where
  /-- byte_timer -/
  byte : BitVec 16
  /-- frame_timer -/
  frame : BitVec 24
  /-- reconn_timer -/
  reconn : BitVec 16
  deriving DecidableEq, Repr

/-- The buffer bytes written since reset, by window offset (10_state.md R140, R141; log 5). -/
abbrev Memory := List Host.Cell

/-- The state of one instance of the block, with the record of its environment. -/
structure State where
  /-- VER_RESET and RXFIFO_DEPTH (R156) -/
  params : Params
  /-- CTRL, INT_ENABLE, CFG_VER, LINECFG, TMO_BYTE, RETRY_LIMIT, TMO_FRAME, RECONN_IVL, TX_HDR, TX_LEN -/
  regs : HostRegs
  /-- STATUS (R113) -/
  status : Status
  /-- RESULT (R114) -/
  result : ResultReg
  /-- INT_STATUS [5:0] (R115) -/
  intStatus : BitVec 6
  /-- RX_FLEN [12:0] (R127) -/
  rxFlen : BitVec 13
  /-- CNT_SKIP, CNT_DISCARD, CNT_ATTEMPT, CNT_FRAMES_OK (R129 to R132) -/
  counters : Counters
  /-- TXBUF and RXBUF: the bytes written since reset (R140, R141) -/
  mem : Memory
  /-- The model's own field: which draw of the unwritten buffer bytes is in force (R801; log 4) -/
  epoch : Nat
  /-- tx_img, tx_idx (R150) -/
  tx : TxSeq
  /-- rx_idx, rx_need (R151) -/
  rx : RxSeq
  /-- The receive FIFO, oldest byte first (R152) -/
  fifo : List Byte
  /-- byte_timer, frame_timer, reconn_timer (R153) -/
  timers : Timers
  /-- autortn_code (R154) -/
  autoRtnCode : Byte
  /-- The model's own field: the steps the agents have already chosen, next one first (R103, R105; log 1) -/
  inbox : List Event
  /-- The model's own field: how many free draws of the environment were taken (R103; log 1) -/
  draws : Nat
  /-- The model's own field: the outputs on the PHY side so far, oldest first (R102; log 7) -/
  phyOut : List PhyOut
  /-- The model's own field: the response to the latest host access (R101; log 7) -/
  busResp : BusResp
  deriving DecidableEq, Repr

/-- Why the machine stops. Every constructor stands where a `case` of a rule has no arm, in a state that 10_state.md R113,
R150, R151 call unreachable; stopping there is safe (log 8). -/
inductive Fault where
  /-- Raised by `txDone`, `frameDone` and `timeoutFinish` when STATUS.OP names no command that has the phase that ends
  (41_transport.md R523, R543, R547 give no arm). Safe: no state that meets the invariant raises it. -/
  | phaseWithoutCommand
  /-- Raised by `txAccept` and `lbEmit` when tx_idx is past the end of tx_img, so that no byte is presented (10_state.md
  R150). Safe: no state that meets the invariant raises it. -/
  | noBytePresented
  /-- Raised by `rxConsume` in an RX phase whose RXST is IDLE (41_transport.md R540 gives no arm). Safe: no state that
  meets the invariant raises it. -/
  | rxPhaseIdle
  /-- Raised by `collect` when rx_idx is past the end of RXBUF (10_state.md R141, R151). Safe: no state that meets the
  invariant raises it. -/
  | rxbufOverrun
  /-- Raised by `ioError` when LINK is CONNECTED and PHASE is OPEN (41_transport.md R504 gives no arm). Safe: no state that
  meets the invariant raises it. -/
  | ioErrorWhileOpening
  deriving DecidableEq, Repr

/-- Why the model has no meaning for an instruction. -/
inductive Refusal where
  /-- Raised by an arm of `exec` whose instruction has no meaning yet; safe. No arm raises it. -/
  | notModelled (mnemonic : String)
  deriving DecidableEq, Repr

/-- What a step, a command or a part of one answers. -/
abbrev Answer := Host.Outcome State Fault Refusal

/-- The state after reset for given parameters: 70_reset_and_hazards.md R801, and R833's `LaunchReset(depth, ver)`. The last
five fields but `mem` and `epoch` are the model's own (log 9). -/
def State.resetWith (p : Params) : State where
  params := p
  regs := {
    autoRtn := false
    loopback := false
    intEnable := 0#6
    cfgVer := p.verReset
    lineCfg := 0x00000000#32
    tmoByte := 0x0064#16
    retryLimit := 0x03#8
    tmoFrame := 0x002710#24
    reconnIvl := 0x03E8#16
    txHdr := 0x000000#24
    txLen := 0x0000#16 }
  status := { busy := false, link := .disconnected, armed := false, phase := .none, rxst := .idle, op := 0#4 }
  result := { code := 0#8, rtnClass := 0#4, lenErrKind := false, autoRtnFail := false }
  intStatus := 0#6
  rxFlen := 0#13
  counters := { skip := 0#16, discard := 0#16, attempt := 0#8, framesOk := 0#16 }
  mem := []
  epoch := 0
  tx := { img := [], idx := 0 }
  rx := { idx := 0, need := 10 }
  fifo := []
  timers := { byte := 0#16, frame := 0#24, reconn := 0#16 }
  autoRtnCode := 0#8
  inbox := []
  draws := 0
  phyOut := []
  busResp := .none

/-- The machine right after reset, with the two OPEN parameters of 00_scope.md R10. -/
def State.reset : State :=
  State.resetWith { verReset := Config.verReset, rxfifoDepth := Config.rxfifoDepth }

end Sys2Proof.Machine
end

