-- ==== Sys2Proof/Machine/Flags.lean ====
section
/-! DEFINITION. The six INT_STATUS flags, how each is set and cleared, and the interrupt output (10_state.md R115, R116;
60_exceptions.md R720, R721). The block has no condition codes (10_state.md R135). -/

namespace Sys2Proof.Machine

/-- INT_STATUS.DONE, bit 0 (10_state.md R115). -/
def flagDone : BitVec 6 := 0x01#6
/-- INT_STATUS.ERR, bit 1 (R115). -/
def flagErr : BitVec 6 := 0x02#6
/-- INT_STATUS.LINK_CHG, bit 2 (R115). -/
def flagLinkChg : BitVec 6 := 0x04#6
/-- INT_STATUS.OVERRUN, bit 3 (R115). -/
def flagOverrun : BitVec 6 := 0x08#6
/-- INT_STATUS.CMD_REJ, bit 4 (R115). -/
def flagCmdRej : BitVec 6 := 0x10#6
/-- INT_STATUS.BUF_VIOL, bit 5 (R115). -/
def flagBufViol : BitVec 6 := 0x20#6

/-- Set INT_STATUS flags; a bit that is already 1 stays 1 (60_exceptions.md R720). -/
def setFlags (m : BitVec 6) (s : State) : State := { s with intStatus := s.intStatus ||| m }

/-- A host write to INT_STATUS clears every bit whose data bit is 1 and leaves the others (R115, R721). It is the
acknowledge that stands where a trap return would stand (60_exceptions.md R731). -/
def clearFlags (m : BitVec 6) (s : State) : State := { s with intStatus := s.intStatus &&& ~~~m }

/-- The flags `finish(code)` sets: DONE, and ERR when the code is not OK (41_transport.md R520). -/
def finishFlags (code : Byte) : BitVec 6 := if code = 0x00#8 then flagDone else flagDone ||| flagErr

/-- The `irq` output level: some INT_STATUS bit is pending and enabled (10_state.md R116). -/
def irq (s : State) : Bool := (s.intStatus &&& s.regs.intEnable) != 0#6

end Sys2Proof.Machine
end

