-- ==== Sys2Proof/Machine/Ops.lean ====
section
/-! DEFINITION. The named operations over the buffers and registers: buffer bytes, command completion (`finish`, the
block's one "exception entry": 00_scope.md R15, 60_exceptions.md R730), command acceptance and rejection (41_transport.md
R510), the starts of the TX and RX phases (R521, R522), link changes, the FIFO, the counters and the saturating timers. -/

namespace Sys2Proof.Machine

/-! ### Buffer memory (10_state.md R140, R141) -/

/-- Window offset of TXBUF[0] (20_memory.md R201). -/
def txBase : Nat := 0x1000

/-- Window offset of RXBUF[0] (20_memory.md R201). -/
def rxBase : Nat := 0x2000

/-- TXBUF's size in bytes (00_scope.md R11). -/
def txSize : Nat := 4096

/-- RXBUF's size in bytes (00_scope.md R11). -/
def rxSize : Nat := 4105

/-- A window offset of a TXBUF byte (20_memory.md R201). -/
def inTxbuf (a : Nat) : Bool := decide (txBase ≤ a ∧ a < txBase + txSize)

/-- A window offset of an RXBUF byte (20_memory.md R201). -/
def inRxbuf (a : Nat) : Bool := decide (rxBase ≤ a ∧ a < rxBase + rxSize)

/-- The listed byte at a window offset, if one is listed: it was written since reset. -/
def memGet : Memory → Nat → Option Byte
  | [], _ => none
  | (k, v) :: rest, a => if a = k then some v else memGet rest a

/-- List a byte at a window offset, in the place its offset gives it. -/
def memSet : Memory → Nat → Byte → Memory
  | [], a, b => [(a, b)]
  | (k, v) :: rest, a, b =>
    if a < k then (a, b) :: (k, v) :: rest
    else if a = k then (a, b) :: rest
    else (k, v) :: memSet rest a b

/-- What the list holds for an unlisted offset: nothing, the byte has not been written since reset (R801; log 5). -/
def Memory.unlisted : Option Byte := none

/-- Offsets strictly rise along the list, all above `lo`. -/
def risingFrom : Nat → Memory → Bool
  | _, [] => true
  | lo, (k, _) :: rest => decide (lo ≤ k) && risingFrom (k + 1) rest

/-- The canonical form: offsets strictly rising, every listed offset a buffer byte, and no entry equal to what an unlisted
offset holds (log 5). -/
def Memory.wf (m : Memory) : Bool :=
  risingFrom 0 m && m.all (fun c => (inTxbuf c.1 || inRxbuf c.1) && decide (some c.2 ≠ Memory.unlisted))

/-- The buffer byte at a window offset: the byte written last, or the one drawn at reset (R801, R811). -/
def byteAt (s : State) (a : Nat) : Byte := (memGet s.mem a).getD (Config.bufDraw s.epoch a)

/-- TXBUF[i] (10_state.md R140). -/
def txbuf (s : State) (i : Nat) : Byte := byteAt s (txBase + i)

/-- RXBUF[i] (10_state.md R141). -/
def rxbuf (s : State) (i : Nat) : Byte := byteAt s (rxBase + i)

/-- Write one buffer byte at a window offset. -/
def putByte (a : Nat) (b : Byte) (s : State) : State := { s with mem := memSet s.mem a b }

/-- Write the low `n` bytes of a value at offset `a`, byte k being bits [8k+7:8k] (20_memory.md R205, R206). -/
def putBytes : Nat → Nat → Word → State → State
  | 0, _, _, s => s
  | n + 1, a, v, s => putBytes n (a + 1) (v >>> 8) (putByte a (v.extractLsb' 0 8) s)

/-- Read `n` bytes at offset `a`, byte k giving bits [8k+7:8k], zero-extended (20_memory.md R205, R206). -/
def getBytes (s : State) : Nat → Nat → Word
  | 0, _ => 0#32
  | n + 1, a => (byteAt s a).setWidth 32 ||| (getBytes s n (a + 1) <<< 8)

/-- The payload TXBUF[0 .. n-1] (41_transport.md R522). -/
def txPayload (s : State) (n : Nat) : List Byte := (List.range n).map (txbuf s)

/-- The frame image RXBUF[0 .. n-1] (40_frame_codec.md R420). -/
def rxImage (s : State) (n : Nat) : List Byte := (List.range n).map (rxbuf s)

/-! ### Command completion, acceptance, rejection (41_transport.md R510, R520) -/

/-- The RESULT register of all zeros. -/
def ResultReg.zero : ResultReg := { code := 0#8, rtnClass := 0#4, lenErrKind := false, autoRtnFail := false }

/-- `finish(code)`, the only way a command ends (41_transport.md R520): what the spec has in place of taking an exception
(00_scope.md R15, 60_exceptions.md R730). -/
def finish (code : Byte) (s : State) : State :=
  { s with
    result := { s.result with code := code }
    status := { s.status with busy := false, phase := .none, rxst := .idle }
    intStatus := s.intStatus ||| finishFlags code }

/-- Acceptance of a command word with opcode `op`: RESULT becomes 0 and STATUS.OP takes w[3:0] (R510). -/
def acceptCommand (op : BitVec 4) (s : State) : State :=
  { s with result := ResultReg.zero, status := { s.status with op := op } }

/-- Rejection of a command word while BUSY = 1: CMD_REJ, and nothing else changes (R510). -/
def rejectCommand (s : State) : State := setFlags flagCmdRej s

/-- An illegal word with bits [3:0] = `op`: rejected while busy, else accepted and finished at once with ILLEGAL_COMMAND
(R510, 30_encoding.md R322). -/
def illegalCommand (op : BitVec 4) (s : State) : State :=
  if s.status.busy then rejectCommand s else finish codeIllegalCommand (acceptCommand op s)

/-! ### Phases (41_transport.md R511, R521, R522) -/

/-- BUSY becomes 1 and PHASE becomes OPEN: a CONNECT waits for the open outcome (R511). -/
def startOpen (s : State) : State := { s with status := { s.status with busy := true, phase := .opening } }

/-- BUSY becomes 1 (R514). -/
def setBusy (s : State) : State := { s with status := { s.status with busy := true } }

/-- `start_rx()` begins an RX phase; the FIFO is not flushed (R521). -/
def startRx (s : State) : State :=
  { s with
    status := { s.status with phase := .rx, rxst := .hunt }
    rx := { s.rx with idx := 0 }
    rxFlen := 0#13
    timers := { s.timers with byte := 0#16, frame := 0#24 }
    counters := { s.counters with attempt := 0#8 } }

/-- `tx_begin(adr, c1, c2, n)` begins a TX phase; the frame is fixed at this step (R522). -/
def txBegin (adr c1 c2 : Byte) (n : Nat) (s : State) : State :=
  { s with
    tx := { img := encodeFrame s.regs.cfgVer adr c1 c2 (txPayload s n), idx := 0 }
    status := { s.status with busy := true, phase := .tx } }

/-! ### Link, FIFO, outputs -/

/-- STATUS.LINK changes, which sets LINK_CHG (10_state.md R115). -/
def moveLink (l : Link) (s : State) : State :=
  { s with status := { s.status with link := l }, intStatus := s.intStatus ||| flagLinkChg }

/-- STATUS.ARMED is set or cleared (41_transport.md R501, R502, R512). -/
def setArmed (b : Bool) (s : State) : State := { s with status := { s.status with armed := b } }

/-- The FIFO is emptied (10_state.md R152). -/
def clearFifo (s : State) : State := { s with fifo := [] }

/-- reconn_timer becomes 0 (41_transport.md R502 to R504, R511, R512). -/
def clearReconn (s : State) : State := { s with timers := { s.timers with reconn := 0#16 } }

/-- An output on the PHY side (10_state.md R102). -/
def putOut (o : PhyOut) (s : State) : State := { s with phyOut := s.phyOut ++ [o] }

/-- A byte goes into the FIFO, or is dropped with OVERRUN when the FIFO is full (41_transport.md R530, R531). -/
def pushFifo (b : Byte) (s : State) : State :=
  if s.fifo.length = s.params.rxfifoDepth then setFlags flagOverrun s else { s with fifo := s.fifo ++ [b] }

/-- The response to a host access (10_state.md R101). -/
def answer (r : BusResp) (s : State) : State := { s with busResp := r }

/-! ### Counters and timers (10_state.md R129 to R132, R153) -/

/-- CNT_SKIP + 1, modulo 65536 (41_transport.md R541). -/
def countSkip (s : State) : State := { s with counters := { s.counters with skip := s.counters.skip + 1#16 } }

/-- CNT_DISCARD + 1, modulo 65536 (41_transport.md R542, R545). -/
def countDiscard (s : State) : State := { s with counters := { s.counters with discard := s.counters.discard + 1#16 } }

/-- CNT_ATTEMPT + 1 (41_transport.md R545; it never exceeds 255 in a state that meets the invariant, log 10). -/
def countAttempt (s : State) : State := { s with counters := { s.counters with attempt := s.counters.attempt + 1#8 } }

/-- CNT_FRAMES_OK + 1, modulo 65536 (41_transport.md R543). -/
def countFrameOk (s : State) : State :=
  { s with counters := { s.counters with framesOk := s.counters.framesOk + 1#16 } }

/-- One tick of a timer of width `w`, saturating at all ones (10_state.md R153). -/
def satInc {w : Nat} (t : BitVec w) : BitVec w := if t = BitVec.allOnes w then t else t + 1#w

/-- The partial frame is dropped and hunting resumes: RXST becomes HUNT and rx_idx 0 (41_transport.md R542, R545). -/
def resumeHunt (s : State) : State :=
  { s with status := { s.status with rxst := .hunt }, rx := { s.rx with idx := 0 } }

end Sys2Proof.Machine
end

