-- ==== Sys2Proof/Machine/Operands.lean ====
section
/-! DEFINITION. The operand forms of the commands (30_encoding.md R320: the operands come from the registers each rule
names): the header fields of TX_HDR, the length TX_LEN, the header echoed from RXBUF, the frame length RX_FLEN, and the
opcodes that STATUS.OP holds. -/

namespace Sys2Proof.Machine

/-- TX_HDR.ADR, bits [7:0] (10_state.md R123). -/
def txAdr (s : State) : Byte := s.regs.txHdr.extractLsb' 0 8

/-- TX_HDR.CID1, bits [15:8] (R123). -/
def txCid1 (s : State) : Byte := s.regs.txHdr.extractLsb' 8 8

/-- TX_HDR.CID2, bits [23:16] (R123). -/
def txCid2 (s : State) : Byte := s.regs.txHdr.extractLsb' 16 8

/-- TX_LEN as a length (R124). -/
def txLenNat (s : State) : Nat := s.regs.txLen.toNat

/-- The ADR byte of the last received frame, RXBUF[2] (42_engine.md R611, R620). -/
def rxAdr (s : State) : Byte := rxbuf s 2

/-- The CID1 byte of the last received frame, RXBUF[3] (42_engine.md R611, R620). -/
def rxCid1 (s : State) : Byte := rxbuf s 3

/-- The CID2 byte of the last received frame, RXBUF[4], the RTN of a response (42_engine.md R612). -/
def rxCid2 (s : State) : Byte := rxbuf s 4

/-- RX_FLEN as a length (10_state.md R127). -/
def rxFlenNat (s : State) : Nat := s.rxFlen.toNat

/-- STATUS.OP of CONNECT (30_encoding.md R321). -/
def opConnect : BitVec 4 := 0x1#4
/-- STATUS.OP of DISCONNECT. -/
def opDisconnect : BitVec 4 := 0x2#4
/-- STATUS.OP of SEND. -/
def opSend : BitVec 4 := 0x3#4
/-- STATUS.OP of RECEIVE. -/
def opReceive : BitVec 4 := 0x4#4
/-- STATUS.OP of TRANSACT. -/
def opTransact : BitVec 4 := 0x5#4
/-- STATUS.OP of RESPOND. -/
def opRespond : BitVec 4 := 0x6#4
/-- STATUS.OP of VALIDATE. -/
def opValidate : BitVec 4 := 0x7#4

/-- The start of a transmitting command with header `adr`, `c1`, `c2` (41_transport.md R513, R522; 42_engine.md R610,
R611): NOT_CONNECTED, then LENGTH_OVERFLOW, then the TX phase. -/
def startTransmit (adr c1 c2 : Byte) (s : State) : State :=
  if s.status.link ≠ .connected then finish codeNotConnected s
  else if maxLen < txLenNat s then finish codeLengthOverflow s
  else txBegin adr c1 c2 (txLenNat s) s

end Sys2Proof.Machine
end

