-- ==== Sys2Proof/Machine/CodecCommands.lean ====
section
/-! DEFINITION. The two commands that use no link: NOP and VALIDATE (40_frame_codec.md R420, R425). Each meaning is the
whole effect of writing the command's word to CMD: R510's BUSY check and acceptance, then the command's own pseudocode. -/

namespace Sys2Proof.Machine

/-- NOP (40_frame_codec.md R425): no effect when idle, rejected while busy (41_transport.md R510). -/
def execNop (s : State) : Answer :=
  if s.status.busy then .next (rejectCommand s) else .next s

/-- The validation of RXBUF[0 .. RX_FLEN-1], reported in RESULT (40_frame_codec.md R420). -/
def validateRxbuf (s : State) : State :=
  if maxFrame < rxFlenNat s then finish codeLengthOverflow s
  else
    let v := validateImage (rxImage s (rxFlenNat s)) s.regs.cfgVer
    finish v.1 { s with result := { s.result with lenErrKind := v.2 } }

/-- VALIDATE (40_frame_codec.md R420). -/
def execValidate (s : State) : Answer :=
  if s.status.busy then .next (rejectCommand s) else .next (validateRxbuf (acceptCommand opValidate s))

end Sys2Proof.Machine
end

