-- ==== Sys2Proof/Machine/ExchangeCommands.lean ====
section
/-! DEFINITION. The two commands of the protocol engine: TRANSACT and RESPOND (42_engine.md R610, R611). The steps that
carry the phases on are in Machine/Transmit.lean and Machine/Receive.lean. -/

namespace Sys2Proof.Machine

/-- TRANSACT (42_engine.md R610). -/
def execTransact (s : State) : Answer :=
  if s.status.busy then .next (rejectCommand s)
  else .next (startTransmit (txAdr s) (txCid1 s) (txCid2 s) (acceptCommand opTransact s))

/-- RESPOND with status code `rtn` (42_engine.md R611): ADR and CID1 are echoed from RXBUF[2] and RXBUF[3]. -/
def execRespond (rtn : Byte) (s : State) : Answer :=
  if s.status.busy then .next (rejectCommand s)
  else .next (startTransmit (rxAdr s) (rxCid1 s) rtn (acceptCommand opRespond s))

end Sys2Proof.Machine
end

