-- ==== Sys2Proof/Machine/FrameCommands.lean ====
section
/-! DEFINITION. The two commands that move one frame: SEND and RECEIVE (41_transport.md R513, R514). The steps that carry
the phase on are in Machine/Transmit.lean and Machine/Receive.lean. -/

namespace Sys2Proof.Machine

/-- SEND (41_transport.md R513). -/
def execSend (s : State) : Answer :=
  if s.status.busy then .next (rejectCommand s)
  else .next (startTransmit (txAdr s) (txCid1 s) (txCid2 s) (acceptCommand opSend s))

/-- The start of RECEIVE (41_transport.md R514): NOT_CONNECTED, or the RX phase. -/
def startReceive (s : State) : State :=
  if s.status.link ≠ .connected then finish codeNotConnected s else startRx (setBusy s)

/-- RECEIVE (41_transport.md R514). -/
def execReceive (s : State) : Answer :=
  if s.status.busy then .next (rejectCommand s) else .next (startReceive (acceptCommand opReceive s))

end Sys2Proof.Machine
end

