-- ==== Sys2Proof/Machine/LinkCommands.lean ====
section
/-! DEFINITION. The two commands that manage the line: CONNECT and DISCONNECT (41_transport.md R511, R512). -/

namespace Sys2Proof.Machine

/-- The `case LINK` of CONNECT (41_transport.md R511). -/
def openLine (s : State) : State :=
  match s.status.link with
  | .connected => finish codeOk s
  | .connecting => startOpen s
  | .disconnected => startOpen (putOut (.openReq s.regs.lineCfg) (clearReconn (moveLink .connecting s)))

/-- CONNECT (41_transport.md R511). -/
def execConnect (s : State) : Answer :=
  if s.status.busy then .next (rejectCommand s) else .next (openLine (acceptCommand opConnect s))

/-- The line is closed if it is not DISCONNECTED (41_transport.md R512). -/
def closeLine (s : State) : State :=
  if s.status.link = .disconnected then s else moveLink .disconnected (putOut .closeReq s)

/-- DISCONNECT and DISCONNECT_abort up to their `finish` (41_transport.md R512). -/
def disconnectLine (s : State) : State :=
  clearReconn (clearFifo (setArmed false (closeLine (acceptCommand opDisconnect s))))

/-- DISCONNECT (41_transport.md R512): OK when idle, ABORTED when it ends an OPEN or RX phase, rejected in a TX phase
(R510). -/
def execDisconnect (s : State) : Answer :=
  if s.status.busy then
    if s.status.phase = .opening ∨ s.status.phase = .rx then .next (finish codeAborted (disconnectLine s))
    else .next (rejectCommand s)
  else .next (finish codeOk (disconnectLine s))

end Sys2Proof.Machine
end

