-- ==== Sys2Proof/Machine/Dispatch.lean ====
section
/-! DEFINITION. The effect of writing a legal command word to CMD (41_transport.md R510), one arm per instruction. -/

namespace Sys2Proof.Machine

def exec (i : Instr) (s : State) : Host.Outcome State Fault Refusal :=
  match i with
  | .nop => Sys2Proof.Machine.execNop s
  | .connect => Sys2Proof.Machine.execConnect s
  | .disconnect => Sys2Proof.Machine.execDisconnect s
  | .send => Sys2Proof.Machine.execSend s
  | .receive => Sys2Proof.Machine.execReceive s
  | .transact => Sys2Proof.Machine.execTransact s
  | .respond rtn => Sys2Proof.Machine.execRespond rtn s
  | .validate => Sys2Proof.Machine.execValidate s

end Sys2Proof.Machine
end

