-- ==== Sys2Proof/Machine/Registers.lean ====
section
/-! DEFINITION. What the host reads from and writes to each register (10_state.md R110 to R134), CMD's write apart
(Machine/HostBus.lean). -/

namespace Sys2Proof.Machine

/-- A bit as 32-bit data at position `i`. -/
def bitAt (b : Bool) (i : Nat) : Word := (BitVec.ofBool b).setWidth 32 <<< i

/-- STATUS.LINK as bits (10_state.md R113). -/
def linkBits : Link → BitVec 2
  | .disconnected => 0#2
  | .connecting => 1#2
  | .connected => 2#2

/-- STATUS.PHASE as bits (R113). -/
def phaseBits : Phase → BitVec 2
  | .none => 0#2
  | .opening => 1#2
  | .tx => 2#2
  | .rx => 3#2

/-- STATUS.RXST as bits (R113). -/
def rxstBits : RxState → BitVec 2
  | .idle => 0#2
  | .hunt => 1#2
  | .collect => 2#2

/-- The ID constant (R110). -/
def idValue : Word := 0x59440001#32

/-- CTRL as read: AUTO_RTN [0], LOOPBACK [1] (R111). -/
def ctrlWord (s : State) : Word := bitAt s.regs.autoRtn 0 ||| bitAt s.regs.loopback 1

/-- STATUS as read (R113). -/
def statusWord (s : State) : Word :=
  bitAt s.status.busy 0 ||| ((linkBits s.status.link).setWidth 32 <<< 1) ||| bitAt s.status.armed 3
    ||| ((phaseBits s.status.phase).setWidth 32 <<< 4) ||| ((rxstBits s.status.rxst).setWidth 32 <<< 6)
    ||| (s.status.op.setWidth 32 <<< 8)

/-- RESULT as read (R114). -/
def resultWord (s : State) : Word :=
  s.result.code.setWidth 32 ||| (s.result.rtnClass.setWidth 32 <<< 8) ||| bitAt s.result.lenErrKind 12
    ||| bitAt s.result.autoRtnFail 13

/-- RX_HDR, the view `{RXBUF[4], RXBUF[3], RXBUF[2], RXBUF[1]}` (R125). -/
def rxHdrWord (s : State) : Word := rxbuf s 4 ++ rxbuf s 3 ++ rxbuf s 2 ++ rxbuf s 1

/-- RX_LENFIELD, the view of LENID, LCHK and LCHK_CALC (R126). -/
def rxLenFieldWord (s : State) : Word :=
  let n := lenId (rxbuf s 5) (rxbuf s 6)
  n.setWidth 32 ||| ((lchkNibble (rxbuf s 5)).setWidth 32 <<< 12) ||| ((lchk n.toNat).setWidth 32 <<< 16)

/-- RX_CHK, the view of the received and the computed checksum (R128). -/
def rxChkWord (s : State) : Word :=
  if minFrame ≤ rxFlenNat s ∧ rxFlenNat s ≤ maxFrame then
    chksum (imgBody (rxImage s (rxFlenNat s))) ++ imgChk (rxImage s (rxFlenNat s))
  else 0#32

/-- RXFIFO_LEVEL as read: len(fifo) (R133). -/
def fifoLevelWord (s : State) : Word := (BitVec.ofNat 16 s.fifo.length).setWidth 32

/-- `RegRead(a)`: the register at offset `off` (20_memory.md R206; 10_state.md R110 to R133). Reserved bits read 0 (R134). -/
def regRead (off : Nat) (s : State) : Word :=
  match off with
  | 0x000 => idValue
  | 0x004 => ctrlWord s
  | 0x008 => 0#32
  | 0x00C => statusWord s
  | 0x010 => resultWord s
  | 0x014 => s.intStatus.setWidth 32
  | 0x018 => s.regs.intEnable.setWidth 32
  | 0x01C => s.regs.cfgVer.setWidth 32
  | 0x020 => s.regs.lineCfg
  | 0x024 => s.regs.tmoByte.setWidth 32
  | 0x028 => s.regs.retryLimit.setWidth 32
  | 0x02C => s.regs.tmoFrame.setWidth 32
  | 0x030 => s.regs.reconnIvl.setWidth 32
  | 0x034 => s.regs.txHdr.setWidth 32
  | 0x038 => s.regs.txLen.setWidth 32
  | 0x03C => rxHdrWord s
  | 0x040 => rxLenFieldWord s
  | 0x044 => s.rxFlen.setWidth 32
  | 0x048 => rxChkWord s
  | 0x04C => s.counters.skip.setWidth 32
  | 0x050 => s.counters.discard.setWidth 32
  | 0x054 => s.counters.attempt.setWidth 32
  | 0x058 => s.counters.framesOk.setWidth 32
  | 0x05C => fifoLevelWord s
  | _ => 0#32

/-- A write to RX_FLEN: dropped with BUF_VIOL in an RX phase, else data[12:0] is stored (10_state.md R127, 20_memory.md
R213). -/
def writeRxFlen (v : Word) (s : State) : State :=
  if s.status.phase = .rx then setFlags flagBufViol s else { s with rxFlen := v.setWidth 13 }

/-- `RegWrite(a, v)` for every register but CMD (20_memory.md R206; 10_state.md R110 to R134): writes to reserved bits and
to read-only registers change nothing. -/
def regWrite (off : Nat) (v : Word) (s : State) : State :=
  match off with
  | 0x004 => { s with regs := { s.regs with autoRtn := v.getLsbD 0, loopback := v.getLsbD 1 } }
  | 0x014 => clearFlags (v.setWidth 6) s
  | 0x018 => { s with regs := { s.regs with intEnable := v.setWidth 6 } }
  | 0x01C => { s with regs := { s.regs with cfgVer := v.setWidth 8 } }
  | 0x020 => { s with regs := { s.regs with lineCfg := v } }
  | 0x024 => { s with regs := { s.regs with tmoByte := v.setWidth 16 } }
  | 0x028 => { s with regs := { s.regs with retryLimit := v.setWidth 8 } }
  | 0x02C => { s with regs := { s.regs with tmoFrame := v.setWidth 24 } }
  | 0x030 => { s with regs := { s.regs with reconnIvl := v.setWidth 16 } }
  | 0x034 => { s with regs := { s.regs with txHdr := v.setWidth 24 } }
  | 0x038 => { s with regs := { s.regs with txLen := v.setWidth 16 } }
  | 0x044 => writeRxFlen v s
  | 0x04C => { s with counters := { s.counters with skip := v.setWidth 16 } }
  | 0x050 => { s with counters := { s.counters with discard := v.setWidth 16 } }
  | 0x058 => { s with counters := { s.counters with framesOk := v.setWidth 16 } }
  | _ => s

end Sys2Proof.Machine
end

