-- ==== Sys2Proof/Machine/HostBus.lean ====
section
/-! DEFINITION. Host accesses to the window: `HostRead` and `HostWrite` (20_memory.md R206), the CMD write
(41_transport.md R510), the buffer locks (R213). -/

namespace Sys2Proof.Machine

/-- The region of the window an access of `n` bytes at `a` lies in (20_memory.md R206). -/
inductive Region where
  | reg
  | txb
  | rxb
  | none
  deriving DecidableEq, Repr

/-- `region(a, n)` (20_memory.md R206). -/
def regionOf (a n : Nat) : Region :=
  if n = 4 ∧ a % 4 = 0 ∧ a ≤ 0x005C then .reg
  else if txBase ≤ a ∧ a + n - 1 ≤ 0x1FFF then .txb
  else if rxBase ≤ a ∧ a + n - 1 ≤ 0x3008 then .rxb
  else .none

/-- The width is 1, 2 or 4 and the address a multiple of it (20_memory.md R206, R207). -/
def aligned (a n : Nat) : Bool := decide ((n = 1 ∨ n = 2 ∨ n = 4) ∧ a % n = 0)

/-- The response of `HostRead(a, n)` (20_memory.md R206). -/
def readResp (a n : Nat) (s : State) : BusResp :=
  if aligned a n = false then .busError
  else match regionOf a n with
    | .reg => .data (regRead a s)
    | .txb => .data (getBytes s n a)
    | .rxb => .data (getBytes s n a)
    | .none => .busError

/-- `HostRead(a, n)`: only the response changes (20_memory.md R206, R209). -/
def hostRead (a : BitVec 16) (n : Nat) (s : State) : State := answer (readResp a.toNat n s) s

/-- The window offset of CMD (10_state.md R112). -/
def cmdOffset : BitVec 16 := 0x0008#16

/-- `CMDWrite(w)` (41_transport.md R510): a legal word runs its instruction, an illegal one is rejected or finishes. -/
def cmdWrite (w : Word) (s : State) : Answer :=
  match decode w with
  | .instr i => exec i s
  | .reject _ => .next (illegalCommand (wordOp w) s)

/-- A write to a buffer: dropped with BUF_VIOL while its lock holds (20_memory.md R206, R213). -/
def bufWrite (locked : Bool) (a n : Nat) (v : Word) (s : State) : State :=
  if locked then setFlags flagBufViol s else putBytes n a v s

/-- `HostWrite(a, n, v)` (20_memory.md R206). A bus error changes no state (R208). -/
def hostWrite (a : BitVec 16) (n : Nat) (v : Word) (s : State) : Answer :=
  if aligned a.toNat n = false then .next (answer .busError s)
  else match regionOf a.toNat n with
    | .reg => if a = cmdOffset then cmdWrite v (answer .done s) else .next (regWrite a.toNat v (answer .done s))
    | .txb => .next (bufWrite (decide (s.status.phase = .tx)) a.toNat n v (answer .done s))
    | .rxb => .next (bufWrite (decide (s.status.phase = .rx)) a.toNat n v (answer .done s))
    | .none => .next (answer .busError s)

end Sys2Proof.Machine
end

