-- ==== Sys2Proof/Machine/Receive.lean ====
section
/-! DEFINITION. The receive path: `rx_byte`, the reconstruction of frames by `rx_consume` with `hunt` and `collect`, what a
complete frame does, and the timeouts of an RX phase (41_transport.md R530, R540 to R547; 42_engine.md R612, R620). -/

namespace Sys2Proof.Machine

/-- `rx_byte(b)` (41_transport.md R530). -/
def rxByte (b : Byte) (s : State) : State :=
  if s.status.link ≠ .connected ∨ s.regs.loopback = true then s else pushFifo b s

/-- `transact_done(code)` (42_engine.md R612). -/
def transactDone (code : Byte) (s : State) : State :=
  if code ≠ codeOk then finish code s
  else
    let s1 : State := { s with result := { s.result with rtnClass := rtnClassOf (rxCid2 s) } }
    if rxCid2 s = 0x00#8 then finish codeOk s1 else finish codeDeviceError s1

/-- `auto_rtn(code)`: the automatic error response begins (42_engine.md R620). -/
def autoRtn (code : Byte) (s : State) : State :=
  txBegin (rxAdr s) (rxCid1 s) code 0 { s with autoRtnCode := code }

/-- `receive_done(code)` (41_transport.md R544). -/
def receiveDone (code : Byte) (s : State) : State :=
  if (code = codeVersionMismatch ∨ code = codeChecksumMismatch ∨ code = codeLchksumMismatch) ∧ s.regs.autoRtn = true
  then autoRtn code s
  else finish code s

/-- The result of validating a complete frame is recorded: LENERR_KIND, RXST IDLE, CNT_FRAMES_OK (41_transport.md R543). -/
def recordFrame (v : Byte × Bool) (s : State) : State :=
  let s1 : State :=
    { s with
      result := { s.result with lenErrKind := v.2 }
      status := { s.status with rxst := .idle } }
  if v.1 = codeOk then countFrameOk s1 else s1

/-- `frame_done()`, run in the step that stores a correct EOI (41_transport.md R543). -/
def frameDone (s : State) : Answer :=
  let v := validateImage (rxImage s (rxFlenNat s)) s.regs.cfgVer
  if s.status.op = opReceive then .next (receiveDone v.1 (recordFrame v s))
  else if s.status.op = opTransact then .next (transactDone v.1 (recordFrame v s))
  else .fault .phaseWithoutCommand

/-- `hunt(b)` (41_transport.md R541). -/
def hunt (b : Byte) (s : State) : State :=
  if b = soi then
    putByte rxBase b { s with rx := { s.rx with idx := 1 }, status := { s.status with rxst := .collect } }
  else countSkip s

/-- The byte is stored at rx_idx, rx_idx advances, and the seventh byte settles rx_need from LENID (41_transport.md R542). -/
def storeByte (b : Byte) (s : State) : State :=
  let s1 := putByte (rxBase + s.rx.idx) b s
  let s2 : State := { s1 with rx := { s1.rx with idx := s.rx.idx + 1 } }
  if s.rx.idx + 1 = 7 then
    { s2 with rx := { s2.rx with need := minFrame + (lenId (rxbuf s2 5) (rxbuf s2 6)).toNat } }
  else s2

/-- The byte at the EOI position has been stored (41_transport.md R542): a wrong one discards the frame, a right one
completes it. -/
def endOfFrame (b : Byte) (s : State) : Answer :=
  if b ≠ eoi then .next (resumeHunt (countDiscard s))
  else frameDone { s with rxFlen := BitVec.ofNat 13 s.rx.need }

/-- `collect(b)` (41_transport.md R542). -/
def collect (b : Byte) (s : State) : Answer :=
  if rxSize ≤ s.rx.idx then .fault .rxbufOverrun
  else
    let s1 := storeByte b s
    if minFrame ≤ s1.rx.idx ∧ s1.rx.idx = s1.rx.need then endOfFrame b s1 else .next s1

/-- The oldest FIFO byte is removed and byte_timer becomes 0 (41_transport.md R540). -/
def popFifo (rest : List Byte) (s : State) : State :=
  { s with fifo := rest, timers := { s.timers with byte := 0#16 } }

/-- `rx_consume()` (41_transport.md R540); it is enabled only with a byte in the FIFO. -/
def rxConsume (s : State) : Answer :=
  match s.fifo with
  | [] => .next s
  | b :: rest =>
    match s.status.rxst with
    | .hunt => .next (hunt b (popFifo rest s))
    | .collect => collect b (popFifo rest s)
    | .idle => .fault .rxPhaseIdle

/-- `finish(timeout_code())` (41_transport.md R545, R547). -/
def timeoutFinish (s : State) : Answer :=
  if s.status.op = opReceive then .next (finish codeReceiveTimeout s)
  else if s.status.op = opTransact then .next (finish codeNoResponse s)
  else .fault .phaseWithoutCommand

/-- The read timeout of an RX phase has expired: one attempt (41_transport.md R545). -/
def readTimeout (s : State) : Answer :=
  let s1 : State := { s with timers := { s.timers with byte := 0#16 } }
  let s2 := if s1.status.rxst = .collect then resumeHunt (countDiscard s1) else s1
  let s3 := countAttempt s2
  if max s3.regs.retryLimit.toNat 1 ≤ s3.counters.attempt.toNat then timeoutFinish s3 else .next s3

/-- The frame deadline of an RX phase has passed (41_transport.md R545, R546). -/
def frameDeadline (s : State) : Answer :=
  timeoutFinish (if s.status.rxst = .collect then countDiscard s else s)

/-- The part of a tick that an RX phase takes; the frame deadline is checked first (41_transport.md R545, R546). -/
def tickRx (s : State) : Answer :=
  let s1 : State := { s with timers := { s.timers with frame := satInc s.timers.frame } }
  if s1.regs.tmoFrame ≠ 0#24 ∧ s1.regs.tmoFrame.toNat ≤ s1.timers.frame.toNat then frameDeadline s1
  else
    let s2 : State := { s1 with timers := { s1.timers with byte := satInc s1.timers.byte } }
    if max s2.regs.tmoByte.toNat 1 ≤ s2.timers.byte.toNat then readTimeout s2 else .next s2

end Sys2Proof.Machine
end

