-- ==== Sys2Proof/Machine/Link.lean ====
section
/-! DEFINITION. The link state machine outside the commands: the open outcomes, automatic reconnection, line failure, and
the tick (41_transport.md R501 to R504, R545). -/

namespace Sys2Proof.Machine

/-- `open_ok` (41_transport.md R501). -/
def openOk (s : State) : State :=
  let s1 := setArmed true (clearFifo (moveLink .connected s))
  if s.status.phase = .opening then finish codeOk s1 else s1

/-- `open_fail` (41_transport.md R502). -/
def openFail (s : State) : State :=
  let s1 := clearReconn (clearFifo (moveLink .disconnected s))
  if s.status.phase = .opening then finish codeCannotOpen (setArmed false s1) else s1

/-- The part of a tick that reconnects by itself (41_transport.md R503). -/
def tickReconn (s : State) : State :=
  if s.status.link = .disconnected ∧ s.status.armed = true then
    let s1 : State := { s with timers := { s.timers with reconn := satInc s.timers.reconn } }
    if max s1.regs.reconnIvl.toNat 1 ≤ s1.timers.reconn.toNat then
      putOut (.openReq s.regs.lineCfg) (moveLink .connecting (clearReconn s1))
    else s1
  else s

/-- `tick`: R503's part, then R545's; no reachable state takes both (41_transport.md R545; log 10). -/
def tick (s : State) : Answer :=
  if s.status.phase = .rx then tickRx (tickReconn s) else .next (tickReconn s)

/-- The line drops by itself: what `io_error` does before its `case` (41_transport.md R504). -/
def dropLine (s : State) : State :=
  clearReconn (clearFifo (putOut .closeReq (moveLink .disconnected s)))

/-- `io_error` (41_transport.md R504). -/
def ioError (s : State) : Answer :=
  match s.status.phase with
  | .tx =>
    if s.status.op = opReceive then
      .next (finish s.autoRtnCode { dropLine s with result := { s.result with autoRtnFail := true } })
    else .next (finish codeWriteFailure (dropLine s))
  | .rx => .next (finish codeReadFailure (dropLine s))
  | .none => .next (dropLine s)
  | .opening => .fault .ioErrorWhileOpening

end Sys2Proof.Machine
end

