-- ==== Sys2Proof/Machine/Transmit.lean ====
section
/-! DEFINITION. The steps of a TX phase: `tx_accept` on the line, `lb_emit` in loopback, and `tx_done` (41_transport.md
R523, R531, R532). -/

namespace Sys2Proof.Machine

/-- `tx_done()`, run in the step that sends the last byte (41_transport.md R523). -/
def txDone (s : State) : Answer :=
  if s.status.op = opSend ∨ s.status.op = opRespond then .next (finish codeOk s)
  else if s.status.op = opTransact then .next (startRx s)
  else if s.status.op = opReceive then .next (finish s.autoRtnCode s)
  else .fault .phaseWithoutCommand

/-- tx_idx + 1 (41_transport.md R531, R532). -/
def countSent (s : State) : State := { s with tx := { s.tx with idx := s.tx.idx + 1 } }

/-- The byte has gone: tx_idx advances, and after the last byte `tx_done` runs (41_transport.md R531, R532). -/
def advanceTx (s : State) : Answer :=
  if s.tx.idx + 1 = s.tx.img.length then txDone (countSent s) else .next (countSent s)

/-- `tx_accept()`: the presented byte goes on the line (41_transport.md R532). -/
def txAccept (s : State) : Answer :=
  match s.tx.img[s.tx.idx]? with
  | some b => advanceTx (putOut (.emit b) s)
  | none => .fault .noBytePresented

/-- `lb_emit()`: the presented byte goes into the block's own FIFO (41_transport.md R531). -/
def lbEmit (s : State) : Answer :=
  match s.tx.img[s.tx.idx]? with
  | some b => advanceTx (pushFifo b s)
  | none => .fault .noBytePresented

end Sys2Proof.Machine
end

