-- ==== Sys2Proof/Machine/Agenda.lean ====
section
/-! DEFINITION. Which atomic step comes next, and what it does: the enabling conditions and the urgency of internal steps
(10_state.md R103 to R105, 41_transport.md R500), and the reset step (70_reset_and_hazards.md R800). -/

namespace Sys2Proof.Machine

/-- The step that comes next: the first one the agents have already chosen, or else the environment's next free draw
(10_state.md R103; log 1). -/
def nextEvent (s : State) : Event :=
  match s.inbox with
  | e :: _ => e
  | [] => Config.envDraw s.draws

/-- The state with that choice taken (log 1). -/
def takeEvent (s : State) : State :=
  match s.inbox with
  | _ :: rest => { s with inbox := rest }
  | [] => { s with draws := s.draws + 1 }

/-- `rx_consume` is enabled (41_transport.md R500). -/
def rxConsumeEnabled (s : State) : Bool := decide (s.status.phase = .rx) && !s.fifo.isEmpty

/-- `lb_emit` is enabled (41_transport.md R500). -/
def lbEmitEnabled (s : State) : Bool := decide (s.status.phase = .tx) && s.regs.loopback

/-- `tx_accept` is enabled (41_transport.md R500). -/
def txAcceptEnabled (s : State) : Bool := decide (s.status.phase = .tx) && !s.regs.loopback

/-- Some internal step is enabled, so that no tick is (10_state.md R104). -/
def internalEnabled (s : State) : Bool := rxConsumeEnabled s || lbEmitEnabled s

/-- The internal step that is enabled; at most one is (41_transport.md R500). -/
def internalStep (s : State) : Answer := if rxConsumeEnabled s then rxConsume s else lbEmit s

/-- The reset step (70_reset_and_hazards.md R800, R801): every piece of the block's state takes its reset value, with
buffer bytes drawn afresh; no request goes to the PHY, and what has been put out stays put out. The parameters and the
record of the environment are not the block's state (R156; log 9). -/
def resetStep (s : State) : State :=
  { State.resetWith s.params with
    epoch := s.epoch + 1
    inbox := s.inbox
    draws := s.draws
    phyOut := s.phyOut
    busResp := s.busResp }

/-- One atomic step (41_transport.md R500). A step whose enabling condition does not hold cannot be taken: such a choice is
passed over (log 1). A tick is given only when no internal step is enabled (`step` sees to it). -/
def perform (e : Event) (s : State) : Answer :=
  match e with
  | .hostRead a n => .next (hostRead a n s)
  | .hostWrite a n v => hostWrite a n v s
  | .rxByte b => .next (rxByte b s)
  | .txAccept => if txAcceptEnabled s then txAccept s else .next s
  | .openOk => if s.status.link = .connecting then .next (openOk s) else .next s
  | .openFail => if s.status.link = .connecting then .next (openFail s) else .next s
  | .ioError => if s.status.link = .connected then ioError s else .next s
  | .tick => tick s
  | .rxConsume => if rxConsumeEnabled s then rxConsume s else .next s
  | .lbEmit => if lbEmitEnabled s then lbEmit s else .next s
  | .reset => .next (resetStep s)

/-- The command word `w` as the host's next step: a 4-byte write to CMD (30_encoding.md R320; log 2). -/
def cmdEvent (w : Word) : Event := .hostWrite cmdOffset 4 w

end Sys2Proof.Machine
end

