-- ==== Sys2Proof/Machine/Step.lean ====
section
/-! DEFINITION. One step of the machine, and the place a command word is put for the next step to run it. -/

namespace Sys2Proof.Machine

/-- One atomic step (10_state.md R105). When the choice is a tick and an internal step is enabled, the internal step is
taken and the tick stays the next choice: a tick is not enabled then (10_state.md R104). -/
def step (s : State) : Host.Outcome State Fault Refusal :=
  if nextEvent s = .tick ∧ internalEnabled s = true then internalStep s
  else perform (nextEvent s) (takeEvent s)

/-- `s` with the instruction whose bits are `w` as the host's next command write (log 2). -/
def State.withFetchWord (s : State) (nbits w : Nat) : State :=
  { s with inbox := cmdEvent (BitVec.ofNat 32 (w % 2 ^ nbits)) :: s.inbox }

end Sys2Proof.Machine
end

