-- ==== Sys2Proof/Machine/Script.lean ====
section
/-! DEFINITION. Host programs: the statements and environment lines of 30_encoding.md R330 and R331 as the atomic steps they
make, and the run of a program by 70_reset_and_hazards.md R830: each line's steps, then every internal step that is enabled,
until none is; a `POLL` that never reads BUSY = 0 never ends (log 15). -/

namespace Sys2Proof.Machine

/-- The 24 registers by name (10_state.md R110 to R133). -/
inductive Reg where
  | id | ctrl | cmd | status | result | intStatus | intEnable | cfgVer | lineCfg | tmoByte | retryLimit | tmoFrame
  | reconnIvl | txHdr | txLen | rxHdr | rxLenField | rxFlen | rxChk | cntSkip | cntDiscard | cntAttempt | cntFramesOk
  | rxfifoLevel
  deriving DecidableEq, Repr

/-- `off(REG)`: the register's window offset (20_memory.md R201: register k at offset 4k). -/
def regOffset : Reg → BitVec 16
  | .id => 0x000#16
  | .ctrl => 0x004#16
  | .cmd => 0x008#16
  | .status => 0x00C#16
  | .result => 0x010#16
  | .intStatus => 0x014#16
  | .intEnable => 0x018#16
  | .cfgVer => 0x01C#16
  | .lineCfg => 0x020#16
  | .tmoByte => 0x024#16
  | .retryLimit => 0x028#16
  | .tmoFrame => 0x02C#16
  | .reconnIvl => 0x030#16
  | .txHdr => 0x034#16
  | .txLen => 0x038#16
  | .rxHdr => 0x03C#16
  | .rxLenField => 0x040#16
  | .rxFlen => 0x044#16
  | .rxChk => 0x048#16
  | .cntSkip => 0x04C#16
  | .cntDiscard => 0x050#16
  | .cntAttempt => 0x054#16
  | .cntFramesOk => 0x058#16
  | .rxfifoLevel => 0x05C#16

/-- One line of a host program: a host statement, a pseudo-statement or an environment line (30_encoding.md R330, R331). -/
inductive Line where
  /-- `WR <REG>, <imm32>` -/
  | wr (r : Reg) (v : Word)
  /-- `RD <REG>` -/
  | rd (r : Reg)
  /-- `WRB <addr>, <imm8>` -/
  | wrb (a : BitVec 16) (v : Byte)
  /-- `WRH <addr>, <imm16>` -/
  | wrh (a : BitVec 16) (v : BitVec 16)
  /-- `WRW <addr>, <imm32>` -/
  | wrw (a : BitVec 16) (v : Word)
  /-- `RDB <addr>` -/
  | rdb (a : BitVec 16)
  /-- `RDH <addr>` -/
  | rdh (a : BitVec 16)
  /-- `RDW <addr>` -/
  | rdw (a : BitVec 16)
  /-- `CMD <mnemonic>` and `CMD RESPOND, <rtn8>` -/
  | cmd (i : Instr)
  /-- `POLL` -/
  | poll
  /-- `CLRINT <mask>` -/
  | clrint (mask : Word)
  /-- `LOADTX b0 b1 …` -/
  | loadtx (bs : List Byte)
  /-- `LOADRX b0 b1 …` -/
  | loadrx (bs : List Byte)
  /-- `ENV open_ok` -/
  | envOpenOk
  /-- `ENV open_fail` -/
  | envOpenFail
  /-- `ENV rx b0 b1 …` -/
  | envRx (bs : List Byte)
  /-- `ENV accept n` -/
  | envAccept (n : Nat)
  /-- `ENV tick n` -/
  | envTick (n : Nat)
  /-- `ENV io_error` -/
  | envIoError
  deriving DecidableEq, Repr

/-- The byte writes of `LOADTX` and `LOADRX` from window address `a` on (30_encoding.md R330). DESIGN CHOICE, unsafe: an address
past 0xFFFF, which the spec gives no meaning, is taken modulo 65536 (log 16). -/
def loadEvents : Nat → List Byte → List Event
  | _, [] => []
  | a, b :: bs => .hostWrite (BitVec.ofNat 16 a) 1 (b.setWidth 32) :: loadEvents (a + 1) bs

/-- The atomic steps a line makes; `POLL` makes one read a round (30_encoding.md R330, R331). -/
def lineEvents : Line → List Event
  | .wr r v => [.hostWrite (regOffset r) 4 v]
  | .rd r => [.hostRead (regOffset r) 4]
  | .wrb a v => [.hostWrite a 1 (v.setWidth 32)]
  | .wrh a v => [.hostWrite a 2 (v.setWidth 32)]
  | .wrw a v => [.hostWrite a 4 v]
  | .rdb a => [.hostRead a 1]
  | .rdh a => [.hostRead a 2]
  | .rdw a => [.hostRead a 4]
  | .cmd i => [cmdEvent (encode i)]
  | .poll => [.hostRead (regOffset .status) 4]
  | .clrint mask => [.hostWrite (regOffset .intStatus) 4 mask]
  | .loadtx bs => loadEvents txBase bs
  | .loadrx bs => loadEvents rxBase bs
  | .envOpenOk => [.openOk]
  | .envOpenFail => [.openFail]
  | .envRx bs => bs.map .rxByte
  | .envAccept n => List.replicate n .txAccept
  | .envTick n => List.replicate n .tick
  | .envIoError => [.ioError]

/-- The environment lines, which are no host statements (30_encoding.md R331). -/
def isEnv : Line → Bool
  | .envOpenOk => true
  | .envOpenFail => true
  | .envRx _ => true
  | .envAccept _ => true
  | .envTick _ => true
  | .envIoError => true
  | .wr _ _ => false
  | .rd _ => false
  | .wrb _ _ => false
  | .wrh _ _ => false
  | .wrw _ _ => false
  | .rdb _ => false
  | .rdh _ => false
  | .rdw _ => false
  | .cmd _ => false
  | .poll => false
  | .clrint _ => false
  | .loadtx _ => false
  | .loadrx _ => false

/-! ### The steps of one line -/

/-- One part after another, stopping where a part stops. -/
def andThen (a : Answer) (f : State → Answer) : Answer :=
  match a with
  | .next s => f s
  | .fault r => .fault r
  | .refused r => .refused r

/-- More than the internal steps that can follow one another from a state: each byte in the FIFO and each byte that is or will
be looped back or consumed counts, and an automatic error response 10 more (41_transport.md R531, R540, R544). The lemma
`internalStep_measure` says that every internal step makes it smaller. -/
def internalMeasure (s : State) : Nat :=
  match s.status.phase with
  | .rx => s.fifo.length + (minFrame + 1)
  | .tx =>
    if s.status.op = opReceive then s.tx.img.length - s.tx.idx
    else 2 * (s.tx.img.length - s.tx.idx) + s.fifo.length + (minFrame + 1)
  | .none => 0
  | .opening => 0

/-- Internal steps while one is enabled, at most `n` of them. -/
def settleWithin : Nat → State → Answer
  | 0, s => .next s
  | n + 1, s => if internalEnabled s then andThen (internalStep s) (settleWithin n) else .next s

/-- Every internal step that is enabled, until none is (70_reset_and_hazards.md R830). The bound is never what ends it: the
lemma `settle_settled`. -/
def settle (s : State) : Answer := settleWithin (internalMeasure s + 1) s

/-- One step of a line; a tick is enabled only when no internal step is, so the internal steps come first (10_state.md R104). -/
def lineStep (e : Event) (s : State) : Answer :=
  if e = .tick then andThen (settle s) (perform e) else perform e s

/-- The given steps in order, each one atomic (10_state.md R105). -/
def performAll : List Event → State → Answer
  | [], s => .next s
  | e :: es, s => andThen (lineStep e s) (performAll es)

/-- The steps of a line, then every internal step that is enabled, until none is (70_reset_and_hazards.md R830). -/
def runLine (l : Line) (s : State) : Answer := andThen (performAll (lineEvents l) s) settle

/-! ### The run of a program -/

/-- How the run of a host program comes out (70_reset_and_hazards.md R830). -/
inductive ProgramEnd where
  /-- The end state: the state after the last line and its internal steps. -/
  | ended (s : State)
  /-- A `POLL` loops for ever: in this state no internal step is enabled, no environment line is left before the next host
  statement, and every further read of STATUS gives BUSY = 1. There is no end state. -/
  | polling (s : State)
  /-- A step faulted. -/
  | fault (r : Fault)
  /-- A step was refused. -/
  | refused (r : Refusal)
  deriving DecidableEq, Repr

/-- The rest of a program after a part of it. -/
def proceed (a : Answer) (f : State → ProgramEnd) : ProgramEnd :=
  match a with
  | .next s => f s
  | .fault r => .fault r
  | .refused r => .refused r

/-- A `RD STATUS` gives BUSY = 1 (30_encoding.md R330). -/
def readsBusy (s : State) : Bool := (statusWord s).getLsbD 0

/-- The read of STATUS that ends a waiting `POLL`; none without one. -/
def lastRead (waiting : Bool) (s : State) : Answer := if waiting then runLine .poll s else .next s

/-- The lines of a program from a state on, in order. `waiting`: the host is in a `POLL` that has read BUSY = 1. It goes on
reading, and only environment lines happen meanwhile, until a read gives BUSY = 0; with no environment line next and no
internal step enabled nothing changes any more, and it reads for ever (30_encoding.md R330, R331; 70_reset_and_hazards.md
R830; log 15). -/
def runLines : List Line → Bool → State → ProgramEnd
  | [], waiting, s => if waiting && readsBusy s then .polling s else proceed (lastRead waiting s) .ended
  | l :: ls, waiting, s =>
    if waiting && readsBusy s then
      if isEnv l then proceed (runLine l s) (runLines ls true) else .polling s
    else proceed (lastRead waiting s) fun u => proceed (runLine l u) (runLines ls (decide (l = .poll) && readsBusy u))

/-- The run of a host program (70_reset_and_hazards.md R830). -/
def runProgram (ls : List Line) (s : State) : ProgramEnd := runLines ls false s

end Sys2Proof.Machine
end

