-- ==== Sys2Proof/Safety.lean ====
section
/-! DEFINITION. The states a run of the block can be in, in the terms claims use: the invariants the rules state for every
reachable state (10_state.md R113, R150 to R154; 41_transport.md R505, R543; 60_exceptions.md R701, R707), the launch
premises of 70_reset_and_hazards.md R833, what statements about commands share, and runs of given steps. -/

namespace Sys2Proof.Machine

/-- The result codes 60_exceptions.md R707 gives a command, told by STATUS.OP: an aborted command shows DISCONNECT's OP
(R702), and any OP can show ILLEGAL_COMMAND (R322). -/
def codeFitsOp (op : BitVec 4) (code : Byte) : Bool :=
  code == codeIllegalCommand ||
  (match op.toNat with
   | 0 => [codeOk]
   | 1 => [codeOk, codeCannotOpen]
   | 2 => [codeOk, codeAborted]
   | 3 => [codeOk, codeWriteFailure, codeNotConnected, codeLengthOverflow]
   | 4 => [codeOk, codeVersionMismatch, codeChecksumMismatch, codeLchksumMismatch, codeReceiveTimeout, codeReadFailure,
           codeNotConnected]
   | 5 => [codeOk, codeVersionMismatch, codeChecksumMismatch, codeLchksumMismatch, codeNoResponse, codeDeviceError,
           codeWriteFailure, codeReadFailure, codeNotConnected, codeLengthOverflow]
   | 6 => [codeOk, codeWriteFailure, codeNotConnected, codeLengthOverflow]
   | 7 => [codeOk, codeVersionMismatch, codeChecksumMismatch, codeLchksumMismatch, codeMalformedMarker, codeLengthOverflow]
   | _ => []).contains code

/-- A validation code that an automatic error response answers (42_engine.md R620). -/
abbrev answeredCode (code : Byte) : Prop :=
  code = codeVersionMismatch ∨ code = codeChecksumMismatch ∨ code = codeLchksumMismatch

/-- What holds in every reachable state. -/
structure State.Inv (s : State) : Prop where
  /-- RXFIFO_DEPTH is in its range (00_scope.md R10). -/
  depthRange : 1 ≤ s.params.rxfifoDepth ∧ s.params.rxfifoDepth ≤ 65535
  /-- BUSY = 1 exactly when PHASE ≠ NONE (10_state.md R113). -/
  busyPhase : s.status.busy = true ↔ s.status.phase ≠ .none
  /-- RXST ≠ IDLE exactly when PHASE = RX (R113). -/
  rxstPhase : s.status.rxst ≠ .idle ↔ s.status.phase = .rx
  /-- PHASE ∈ {TX, RX} implies LINK = CONNECTED (R113). -/
  movingConnected : s.status.phase = .tx ∨ s.status.phase = .rx → s.status.link = .connected
  /-- PHASE = OPEN implies LINK = CONNECTING (R113). -/
  openConnecting : s.status.phase = .opening → s.status.link = .connecting
  /-- LINK = CONNECTED implies ARMED = 1 (41_transport.md R505). -/
  connectedArmed : s.status.link = .connected → s.status.armed = true
  /-- A command in its OPEN phase is CONNECT (41_transport.md R511). -/
  openOp : s.status.phase = .opening → s.status.op = opConnect
  /-- A command in its TX phase is one that transmits (41_transport.md R523). -/
  txOp : s.status.phase = .tx →
    s.status.op = opSend ∨ s.status.op = opReceive ∨ s.status.op = opTransact ∨ s.status.op = opRespond
  /-- A command in its RX phase is one that receives (41_transport.md R543). -/
  rxOp : s.status.phase = .rx → s.status.op = opReceive ∨ s.status.op = opTransact
  /-- tx_img is empty (only since reset) or a whole frame, and tx_idx counts within it (10_state.md R150). -/
  txRange : (s.tx.img = [] ∨ (minFrame ≤ s.tx.img.length ∧ s.tx.img.length ≤ maxFrame)) ∧ s.tx.idx ≤ s.tx.img.length
  /-- In a TX phase a byte is presented (10_state.md R150). -/
  txPresents : s.status.phase = .tx → s.tx.idx < s.tx.img.length
  /-- rx_idx and rx_need are in their ranges (10_state.md R151). -/
  rxRange : s.rx.idx ≤ rxSize ∧ minFrame ≤ s.rx.need ∧ s.rx.need ≤ maxFrame
  /-- While collecting, the stored bytes begin with SOI, and rx_need is settled from the seventh byte on (10_state.md R151,
  41_transport.md R541, R542). -/
  collecting : s.status.rxst = .collect →
    1 ≤ s.rx.idx ∧ s.rx.idx < rxSize ∧ rxbuf s 0 = soi ∧
    (7 ≤ s.rx.idx → s.rx.idx < s.rx.need ∧ s.rx.need = minFrame + (lenId (rxbuf s 5) (rxbuf s 6)).toNat)
  /-- The FIFO holds at most RXFIFO_DEPTH bytes (10_state.md R152). -/
  fifoRange : s.fifo.length ≤ s.params.rxfifoDepth
  /-- The FIFO is empty while the link is not CONNECTED (10_state.md R152, 41_transport.md R530). -/
  fifoConnected : s.status.link ≠ .connected → s.fifo = []
  /-- CNT_ATTEMPT has not reached 255 while the RX phase goes on (10_state.md R131). -/
  attemptRange : s.status.phase = .rx → s.counters.attempt.toNat < 255
  /-- autortn_code is the code being answered (10_state.md R154, 42_engine.md R620). -/
  autoRtnAnswers : s.status.phase = .tx → s.status.op = opReceive → answeredCode s.autoRtnCode
  /-- While BUSY = 1, RESULT reads 0 (10_state.md R114). -/
  busyResult : s.status.busy = true → s.result = ResultReg.zero
  /-- RESULT.CODE is a code that the command in STATUS.OP can finish with (60_exceptions.md R701, R707). -/
  codeFits : codeFitsOp s.status.op s.result.code = true
  /-- RTN_CLASS is a class, and 0 unless CODE is DEVICE_ERROR (10_state.md R114, 42_engine.md R602, R612). -/
  classFits : s.result.rtnClass.toNat ≤ 8 ∧ (s.result.rtnClass ≠ 0#4 → s.result.code = codeDeviceError)
  /-- LENERR_KIND is 0 unless CODE is LCHKSUM_MISMATCH (10_state.md R114). -/
  kindFits : s.result.lenErrKind = true → s.result.code = codeLchksumMismatch
  /-- AUTORTN_FAIL goes with an answered code (10_state.md R114, 42_engine.md R622). -/
  failFits : s.result.autoRtnFail = true → answeredCode s.result.code
  /-- Buffer memory is in its canonical form (log 5). -/
  memWf : Memory.wf s.mem = true

/-- `LaunchReset(depth, ver)` (70_reset_and_hazards.md R833): the state of R801, whichever buffer bytes were drawn, whatever
the environment will do and has recorded. -/
def LaunchReset (depth : Nat) (ver : Byte) (s : State) : Prop :=
  s = { State.resetWith { verReset := ver, rxfifoDepth := depth } with
        epoch := s.epoch, inbox := s.inbox, draws := s.draws, phyOut := s.phyOut, busResp := s.busResp }

/-- The three lines that lead from `LaunchReset` to `LaunchConnected` (R833). -/
def connectLines (ver : Byte) : List Line := [.wr .cfgVer (ver.setWidth 32), .cmd .connect, .envOpenOk]

/-- `LaunchConnected(depth, ver)` (R833): reached from a `LaunchReset(depth, ver')` state by exactly those three lines and
their internal steps. -/
def LaunchConnected (depth : Nat) (ver : Byte) (s : State) : Prop :=
  ∃ ver' s0, LaunchReset depth ver' s0 ∧ runProgram (connectLines ver) s0 = .ended s

/-- How the command with STATUS.OP `op` leaves the block when it finishes with `code` in the step that accepts it and changes
nothing else: RESULT holds the code alone, STATUS is idle, and the flags `fl` are set (41_transport.md R510, R520). -/
def endedWith (op : BitVec 4) (code : Byte) (fl : BitVec 6) (s : State) : State :=
  { s with
    result := { code := code, rtnClass := 0#4, lenErrKind := false, autoRtnFail := false }
    status := { s.status with busy := false, phase := .none, rxst := .idle, op := op }
    intStatus := s.intStatus ||| fl }

/-- What the transmitting command `i` does in an idle block, by the checks of 41_transport.md R522: NOT_CONNECTED, then
LENGTH_OVERFLOW, then a TX phase whose frame carries CFG_VER.VER, the header `adr`, `c1`, `c2` and TXBUF[0 .. TX_LEN-1]. -/
def beginsTransmit (i : Instr) (op : BitVec 4) (adr c1 c2 : Byte) (s : State) : Prop :=
  (s.status.link ≠ .connected → exec i s = .next (endedWith op 0x0B#8 0x03#6 s)) ∧
  (s.status.link = .connected → 4095 < s.regs.txLen.toNat → exec i s = .next (endedWith op 0x0C#8 0x03#6 s)) ∧
  (s.status.link = .connected → s.regs.txLen.toNat ≤ 4095 →
    exec i s = .next { s with
      result := { code := 0#8, rtnClass := 0#4, lenErrKind := false, autoRtnFail := false }
      status := { s.status with busy := true, phase := .tx, op := op }
      tx := { img := encodeFrame s.regs.cfgVer adr c1 c2 (txPayload s s.regs.txLen.toNat), idx := 0 } })

/-- `k` steps of the machine from `s`, in which the agents choose the steps `es` (log 1). -/
def runSteps (es : List Event) (k : Nat) (s : State) : Answer :=
  Host.Core.run Sys2Proof.core k ({ s with inbox := es } : State)

end Sys2Proof.Machine
end

