-- ==== Sys2Proof/Certificates/Slice0/Obligations.lean ====
section
/-! DEFINITION. The statements for the provers, each a numbered rule of spec/ or what follows from several. No statement rests
on a value of an opaque constant of Config, of `epoch`, of `draws` or of `inbox` at reset. -/

open Sys2Proof Sys2Proof.Machine

/-! ### Command words (30_encoding.md) -/

/-- Decoding the word of an instruction gives the instruction back, with every ARG at every value (30_encoding.md R320, R321,
R323). -/
def Obligations.EncodeThenDecode : Prop :=
  ∀ i : Instr, i.wf = true →
    wordLegal (encode i) = true ∧ decode (encode i) = .instr i ∧ decodeTableWord 32 (encode i).toNat = some i

/-- The legal command words are those of R323: seven whole words, and RESPOND's under the mask 0xFFFF00FF (R323). -/
def Obligations.LegalCommandWords : Prop :=
  (∀ w : Word, wordLegal w = true ↔
    (∃ k ∈ [0x0#32, 0x1#32, 0x2#32, 0x3#32, 0x4#32, 0x5#32, 0x7#32], w &&& 0xFFFFFFFF#32 = k) ∨
    w &&& 0xFFFF00FF#32 = 0x00000006#32) ∧
  (∀ w : Word, wordLegal w = true ↔
    w ∈ [0x00000000#32, 0x00000001#32, 0x00000002#32, 0x00000003#32, 0x00000004#32, 0x00000005#32, 0x00000007#32] ∨
    ∃ r : Byte, w = 0x00000006#32 ||| (r.setWidth 32 <<< 8))

/-- A word decodes to an instruction exactly when it is that instruction's word, and is rejected exactly when it is illegal
(R321 to R323). -/
def Obligations.DecodeMatchesEncode : Prop :=
  ∀ w : Word, (∀ i, decode w = .instr i ↔ w = encode i) ∧ ((∃ why, decode w = .reject why) ↔ wordLegal w = false)

/-- Words written out from R320 and R321 decode to the commands they stand for, and words outside R323 are rejected. -/
def Obligations.SampleWordsDecode : Prop :=
  decode 0x00000000#32 = .instr .nop ∧ decode 0x00000001#32 = .instr .connect ∧
  decode 0x00000002#32 = .instr .disconnect ∧ decode 0x00000003#32 = .instr .send ∧
  decode 0x00000004#32 = .instr .receive ∧ decode 0x00000005#32 = .instr .transact ∧
  decode 0x0000EF06#32 = .instr (.respond 0xEF#8) ∧ decode 0x00000007#32 = .instr .validate ∧
  decode 0x00000008#32 = .reject .reservedOpcode ∧ decode 0x00000103#32 = .reject .argNotZero ∧
  decode 0x00000013#32 = .reject .reservedLow ∧ decode 0x00010006#32 = .reject .reservedHigh

/-- Which words are illegal, and what writing one does: ILLEGAL_COMMAND at once when idle, a rejection when busy (R322). -/
def Obligations.IllegalCommandWords : Prop :=
  (∀ w : Word, wordLegal w = false ↔
    8 ≤ (w.extractLsb' 0 4).toNat ∨ w.extractLsb' 4 4 ≠ 0#4 ∨ w.extractLsb' 16 16 ≠ 0#16 ∨
    (w.extractLsb' 8 8 ≠ 0#8 ∧ w.extractLsb' 0 4 ≠ 0x6#4)) ∧
  (∀ (s : State) (w : Word), wordLegal w = false →
    (s.status.busy = false → cmdWrite w s = .next (endedWith (w.extractLsb' 0 4) 0x0D#8 0x03#6 s)) ∧
    (s.status.busy = true → cmdWrite w s = .next { s with intStatus := s.intStatus ||| 0x10#6 }))

/-! ### Steps (10_state.md, 41_transport.md) -/

/-- When the next step is the write of a legal word to CMD, the step is `exec` of the word's instruction, on the state with
that choice taken and the write answered; `withFetchWord` makes that the next step. -/
def Obligations.StepRunsDecodedCommand : Prop :=
  (∀ (s : State) (w : Word) (i : Instr), nextEvent s = cmdEvent w → decode w = .instr i →
    step s = exec i { takeEvent s with busResp := .done }) ∧
  (∀ (s : State) (nbits w : Nat),
    nextEvent (s.withFetchWord nbits w) = .hostWrite 0x0008#16 4 (BitVec.ofNat 32 (w % 2 ^ nbits)) ∧
    takeEvent (s.withFetchWord nbits w) = s)

/-- A tick is taken only when no internal step is enabled: before that an internal step is taken and the tick still waits.
Every other step may be taken at any time (10_state.md R104). -/
def Obligations.TickWaitsForInternalSteps : Prop :=
  ∀ (s : State) (es : List Event) (e : Event), s.inbox = e :: es →
    (e ≠ .tick → step s = perform e { s with inbox := es }) ∧
    (e = .tick → internalEnabled s = false → step s = tick { s with inbox := es }) ∧
    (e = .tick → internalEnabled s = true →
      ((s.status.phase = .rx ∧ s.fifo ≠ [] ∧ step s = rxConsume s) ∨
       (s.status.phase = .tx ∧ s.regs.loopback = true ∧ step s = lbEmit s)) ∧
      ∀ t, step s = .next t → t.inbox = e :: es)

/-- Each step acts only where R500 enables it. That the choice of a step that is not enabled is passed over is the model's
(log 1). -/
def Obligations.EnablingConditions : Prop :=
  ∀ s : State,
    (nextEvent s = .txAccept → step s =
      if s.status.phase = .tx ∧ s.regs.loopback = false then txAccept (takeEvent s) else .next (takeEvent s)) ∧
    (nextEvent s = .lbEmit → step s =
      if s.status.phase = .tx ∧ s.regs.loopback = true then lbEmit (takeEvent s) else .next (takeEvent s)) ∧
    (nextEvent s = .rxConsume → step s =
      if s.status.phase = .rx ∧ 0 < s.fifo.length then rxConsume (takeEvent s) else .next (takeEvent s)) ∧
    (nextEvent s = .openOk → step s =
      if s.status.link = .connecting then .next (openOk (takeEvent s)) else .next (takeEvent s)) ∧
    (nextEvent s = .openFail → step s =
      if s.status.link = .connecting then .next (openFail (takeEvent s)) else .next (takeEvent s)) ∧
    (nextEvent s = .ioError → step s =
      if s.status.link = .connected then ioError (takeEvent s) else .next (takeEvent s))

/-! ### Commands -/

/-- The CMD write (41_transport.md R510): the rejection while busy, the abort by DISCONNECT, the word 0, the acceptance that
clears RESULT and sets STATUS.OP, and the dispatch on w[3:0]. -/
def Obligations.CommandAcceptance : Prop :=
  ∀ (s : State) (w : Word),
    hostWrite 0x0008#16 4 w s = cmdWrite w { s with busResp := .done } ∧
    (s.status.busy = true → w = 0x00000002#32 ∧ (s.status.phase = .opening ∨ s.status.phase = .rx) →
      cmdWrite w s = exec .disconnect s) ∧
    (s.status.busy = true → ¬(w = 0x00000002#32 ∧ (s.status.phase = .opening ∨ s.status.phase = .rx)) →
      cmdWrite w s = .next { s with intStatus := s.intStatus ||| 0x10#6 }) ∧
    (s.status.busy = false → w = 0x00000000#32 → cmdWrite w s = .next s) ∧
    (s.status.busy = false → w ≠ 0x00000000#32 → wordLegal w = false →
      cmdWrite w s = .next (endedWith (w.extractLsb' 0 4) 0x0D#8 0x03#6 s)) ∧
    (s.status.busy = false → w ≠ 0x00000000#32 → wordLegal w = true →
      ∃ i t, [(0x1#4, Instr.connect), (0x2#4, .disconnect), (0x3#4, .send), (0x4#4, .receive), (0x5#4, .transact),
          (0x6#4, .respond (w.extractLsb' 8 8)), (0x7#4, .validate)].contains (w.extractLsb' 0 4, i) = true ∧
        cmdWrite w s = exec i s ∧ exec i s = .next t ∧ t.status.op = w.extractLsb' 0 4 ∧
        (t.status.busy = true →
          t.result = { code := 0#8, rtnClass := 0#4, lenErrKind := false, autoRtnFail := false }) ∧
        t.result.rtnClass = 0#4 ∧ t.result.autoRtnFail = false)

/-- NOP (40_frame_codec.md R425): no effect when idle, rejected while busy, and its word is 0 alone. -/
def Obligations.NopCommand : Prop :=
  encode .nop = 0x00000000#32 ∧
  (∀ s : State, s.status.busy = false → exec .nop s = .next s) ∧
  (∀ s : State, s.status.busy = true → exec .nop s = .next { s with intStatus := s.intStatus ||| 0x10#6 }) ∧
  (∀ w : Word, w.extractLsb' 0 4 = 0x0#4 → w ≠ 0x00000000#32 → wordLegal w = false)

/-- VALIDATE (40_frame_codec.md R420): LENGTH_OVERFLOW, or the validation of RXBUF[0 .. RX_FLEN-1]; nothing else changes. The
corner cases and the example of the rule follow. -/
def Obligations.ValidateCommand : Prop :=
  encode .validate = 0x00000007#32 ∧
  (∀ s : State, s.status.busy = false → 4105 < s.rxFlen.toNat →
    exec .validate s = .next (endedWith 0x7#4 0x0C#8 0x03#6 s)) ∧
  (∀ s : State, s.status.busy = false → s.rxFlen.toNat ≤ 4105 →
    let v := validateImage (rxImage s s.rxFlen.toNat) s.regs.cfgVer
    exec .validate s = .next { endedWith 0x7#4 v.1 (if v.1 = 0x00#8 then 0x01#6 else 0x03#6) s with
      result := { code := v.1, rtnClass := 0#4, lenErrKind := v.2, autoRtnFail := false } } ∧
    (s.rxFlen.toNat = 0 → v = (0x04#8, false)) ∧
    (s.rxFlen.toNat = 1 → rxbuf s 0 = 0x7E#8 → v = (0x04#8, false)) ∧
    (2 ≤ s.rxFlen.toNat → s.rxFlen.toNat ≤ 9 → rxbuf s 0 = 0x7E#8 → rxbuf s (s.rxFlen.toNat - 1) = 0x0D#8 →
      v = (0x03#8, true)) ∧
    (10 ≤ s.rxFlen.toNat → rxbuf s 0 = 0x7E#8 → rxbuf s (s.rxFlen.toNat - 1) = 0x0D#8 → rxbuf s 1 ≠ s.regs.cfgVer →
      v = (0x01#8, false)) ∧
    (v.1 = 0x00#8 ∨ v.1 = 0x01#8 ∨ v.1 = 0x02#8 ∨ v.1 = 0x03#8 ∨ v.1 = 0x04#8)) ∧
  validateImage [0x7E#8, 0x20#8, 0x01#8, 0x40#8, 0x4F#8, 0x00#8, 0x00#8, 0xFF#8, 0x50#8, 0x0D#8] 0x20#8 = (0x00#8, false)

/-- CONNECT (41_transport.md R511): the three link states at acceptance, then how a waiting CONNECT ends: by `open_ok`, by
`open_fail`, by a DISCONNECT, and by no tick. -/
def Obligations.ConnectCommand : Prop :=
  encode .connect = 0x00000001#32 ∧
  (∀ s : State, s.status.busy = false →
    (s.status.link = .connected → exec .connect s = .next (endedWith 0x1#4 0x00#8 0x01#6 s)) ∧
    (s.status.link = .connecting → exec .connect s = .next { s with
      result := { code := 0#8, rtnClass := 0#4, lenErrKind := false, autoRtnFail := false }
      status := { s.status with busy := true, phase := .opening, op := 0x1#4 } }) ∧
    (s.status.link = .disconnected → exec .connect s = .next { s with
      result := { code := 0#8, rtnClass := 0#4, lenErrKind := false, autoRtnFail := false }
      status := { s.status with busy := true, link := .connecting, phase := .opening, op := 0x1#4 }
      intStatus := s.intStatus ||| 0x04#6
      timers := { s.timers with reconn := 0#16 }
      phyOut := s.phyOut ++ [.openReq s.regs.lineCfg] })) ∧
  (∀ s : State, s.status.busy = true → s.status.phase = .opening → s.status.link = .connecting →
    (∃ t, perform .openOk s = .next t ∧ t.result.code = 0x00#8 ∧ t.status.busy = false ∧ t.status.armed = true ∧
      t.status.link = .connected ∧ t.intStatus = s.intStatus ||| 0x05#6) ∧
    (∃ t, perform .openFail s = .next t ∧ t.result.code = 0x08#8 ∧ t.status.busy = false ∧ t.status.armed = false ∧
      t.status.link = .disconnected ∧ t.intStatus = s.intStatus ||| 0x07#6) ∧
    (∃ t, exec .disconnect s = .next t ∧ t.result.code = 0x0E#8 ∧ t.status.busy = false ∧ t.status.armed = false ∧
      t.status.link = .disconnected ∧ t.intStatus = s.intStatus ||| 0x07#6) ∧
    perform .tick s = .next s)

/-- DISCONNECT (41_transport.md R512): accepted when idle, and while busy in an OPEN or RX phase as an abort; rejected in a TX
phase; a second one changes nothing further. -/
def Obligations.DisconnectCommand : Prop :=
  encode .disconnect = 0x00000002#32 ∧
  (∀ s : State, s.status.busy = false ∨ s.status.phase = .opening ∨ s.status.phase = .rx →
    exec .disconnect s = .next { s with
      result := { code := if s.status.busy then 0x0E#8 else 0x00#8, rtnClass := 0#4, lenErrKind := false, autoRtnFail := false }
      status := { busy := false, link := .disconnected, armed := false, phase := .none, rxst := .idle, op := 0x2#4 }
      intStatus := s.intStatus ||| (if s.status.link = .disconnected then 0x00#6 else 0x04#6) |||
        (if s.status.busy then 0x03#6 else 0x01#6)
      fifo := []
      timers := { s.timers with reconn := 0#16 }
      phyOut := if s.status.link = .disconnected then s.phyOut else s.phyOut ++ [.closeReq] }) ∧
  (∀ s : State, s.status.busy = true → s.status.phase = .tx →
    exec .disconnect s = .next { s with intStatus := s.intStatus ||| 0x10#6 }) ∧
  (∀ s t : State, s.status.busy = false → exec .disconnect s = .next t → exec .disconnect t = .next t)

/-- `tx_begin` (41_transport.md R522); the start of a TX phase by SEND, TRANSACT and RESPOND, with their two checks in order;
and that no host write changes the frame once it is fixed. -/
def Obligations.TransmitCommandsBegin : Prop :=
  (∀ (s : State) (adr c1 c2 : Byte) (n : Nat), txBegin adr c1 c2 n s = { s with
    tx := { img := encodeFrame s.regs.cfgVer adr c1 c2 ((List.range n).map fun i => byteAt s (0x1000 + i)), idx := 0 }
    status := { s.status with busy := true, phase := .tx } }) ∧
  (∀ s : State, s.status.busy = false →
    beginsTransmit .send 0x3#4 (s.regs.txHdr.extractLsb' 0 8) (s.regs.txHdr.extractLsb' 8 8)
      (s.regs.txHdr.extractLsb' 16 8) s ∧
    beginsTransmit .transact 0x5#4 (s.regs.txHdr.extractLsb' 0 8) (s.regs.txHdr.extractLsb' 8 8)
      (s.regs.txHdr.extractLsb' 16 8) s ∧
    (∀ rtn : Byte, beginsTransmit (.respond rtn) 0x6#4 (rxbuf s 2) (rxbuf s 3) rtn s)) ∧
  (∀ (s t : State) (a : BitVec 16) (n : Nat) (v : Word), s.status.busy = true → s.status.phase = .tx →
    hostWrite a n v s = .next t → t.tx = s.tx)

/-- RECEIVE begins an RX phase, or finishes NOT_CONNECTED (41_transport.md R514). `start_rx` by RECEIVE and, after the last
request byte, by TRANSACT: the FIFO is not flushed (R521). -/
def Obligations.ReceivePhaseBegins : Prop :=
  (∀ s : State, s.status.busy = false →
    (s.status.link ≠ .connected → exec .receive s = .next (endedWith 0x4#4 0x0B#8 0x03#6 s)) ∧
    (s.status.link = .connected → exec .receive s = .next { s with
      result := { code := 0#8, rtnClass := 0#4, lenErrKind := false, autoRtnFail := false }
      status := { s.status with busy := true, phase := .rx, rxst := .hunt, op := 0x4#4 }
      rx := { s.rx with idx := 0 }
      rxFlen := 0#13
      timers := { s.timers with byte := 0#16, frame := 0#24 }
      counters := { s.counters with attempt := 0#8 } })) ∧
  (∀ s : State, s.status.op = 0x5#4 → txDone s = .next { s with
      status := { s.status with phase := .rx, rxst := .hunt }
      rx := { s.rx with idx := 0 }
      rxFlen := 0#13
      timers := { s.timers with byte := 0#16, frame := 0#24 }
      counters := { s.counters with attempt := 0#8 } })

/-- What NOP and VALIDATE leave unchanged: everything but RESULT, STATUS.BUSY, PHASE, RXST, OP and the flags DONE, ERR,
CMD_REJ (40_frame_codec.md R420, R425). -/
def Obligations.FrameNopValidate : Prop :=
  ∀ s t : State, exec .nop s = .next t ∨ exec .validate s = .next t →
    t.params = s.params ∧ t.regs = s.regs ∧ t.status.link = s.status.link ∧ t.status.armed = s.status.armed ∧
    t.intStatus &&& 0x2C#6 = s.intStatus &&& 0x2C#6 ∧ t.rxFlen = s.rxFlen ∧ t.counters = s.counters ∧ t.tx = s.tx ∧
    t.rx = s.rx ∧ t.fifo = s.fifo ∧ t.timers = s.timers ∧ t.autoRtnCode = s.autoRtnCode ∧ t.inbox = s.inbox ∧
    t.draws = s.draws ∧ t.phyOut = s.phyOut ∧ t.busResp = s.busResp ∧ ∀ a, byteAt t a = byteAt s a

/-- What CONNECT and DISCONNECT leave unchanged: every host register, the sequencing state, the counters, two of the timers,
the flags OVERRUN and BUF_VIOL and every buffer byte; CONNECT also the FIFO (41_transport.md R511, R512). -/
def Obligations.FrameConnectDisconnect : Prop :=
  ∀ s t : State,
    (exec .connect s = .next t ∨ exec .disconnect s = .next t →
      t.params = s.params ∧ t.regs = s.regs ∧ t.intStatus &&& 0x28#6 = s.intStatus &&& 0x28#6 ∧ t.rxFlen = s.rxFlen ∧
      t.counters = s.counters ∧ t.tx = s.tx ∧ t.rx = s.rx ∧ t.timers.byte = s.timers.byte ∧
      t.timers.frame = s.timers.frame ∧ t.autoRtnCode = s.autoRtnCode ∧ t.inbox = s.inbox ∧ t.draws = s.draws ∧
      t.busResp = s.busResp ∧ ∀ a, byteAt t a = byteAt s a) ∧
    (exec .connect s = .next t → t.fifo = s.fifo ∧ t.status.armed = s.status.armed)

/-- What SEND, TRANSACT, RESPOND and RECEIVE leave unchanged in the step that accepts them: the host registers, the link, the
FIFO, the outputs, the other counters, the flags LINK_CHG, OVERRUN and BUF_VIOL and every buffer byte; the first three also
the receive side, RECEIVE also the transmit side (41_transport.md R513, R514; 42_engine.md R610, R611). -/
def Obligations.FrameExchange : Prop :=
  ∀ (s t : State) (rtn : Byte),
    (exec .send s = .next t ∨ exec .transact s = .next t ∨ exec (.respond rtn) s = .next t ∨ exec .receive s = .next t →
      t.params = s.params ∧ t.regs = s.regs ∧ t.status.link = s.status.link ∧ t.status.armed = s.status.armed ∧
      t.intStatus &&& 0x2C#6 = s.intStatus &&& 0x2C#6 ∧ t.counters.skip = s.counters.skip ∧
      t.counters.discard = s.counters.discard ∧ t.counters.framesOk = s.counters.framesOk ∧ t.rx.need = s.rx.need ∧
      t.fifo = s.fifo ∧ t.timers.reconn = s.timers.reconn ∧ t.autoRtnCode = s.autoRtnCode ∧ t.inbox = s.inbox ∧
      t.draws = s.draws ∧ t.phyOut = s.phyOut ∧ t.busResp = s.busResp ∧ ∀ a, byteAt t a = byteAt s a) ∧
    (exec .send s = .next t ∨ exec .transact s = .next t ∨ exec (.respond rtn) s = .next t →
      t.rx = s.rx ∧ t.rxFlen = s.rxFlen ∧ t.timers = s.timers ∧ t.counters = s.counters) ∧
    (exec .receive s = .next t → t.tx = s.tx)

/-! ### Whole commands -/

/-- SEND (41_transport.md R513): its two refusals; 10 + TX_LEN accepted bytes put exactly the encoded frame on the line, then
it finishes OK; in loopback the frame goes into the FIFO instead, and what does not fit is dropped with OVERRUN; a line failure
after m bytes gives WRITE_FAILURE, and those bytes stay on the line. -/
def Obligations.SendTransmitsOneFrame : Prop :=
  encode .send = 0x00000003#32 ∧
  ∀ s : State, s.status.busy = false →
    let n := s.regs.txLen.toNat
    let frame := encodeFrame s.regs.cfgVer (s.regs.txHdr.extractLsb' 0 8) (s.regs.txHdr.extractLsb' 8 8)
      (s.regs.txHdr.extractLsb' 16 8) (txPayload s n)
    let ok : State := { endedWith 0x3#4 0x00#8 0x01#6 s with
      tx := { img := frame, idx := 10 + n }, inbox := [], busResp := .done }
    (s.status.link ≠ .connected → exec .send s = .next (endedWith 0x3#4 0x0B#8 0x03#6 s)) ∧
    (s.status.link = .connected → 4096 ≤ n → exec .send s = .next (endedWith 0x3#4 0x0C#8 0x03#6 s)) ∧
    (s.status.link = .connected → n ≤ 4095 → s.regs.loopback = false →
      runSteps (cmdEvent (encode .send) :: List.replicate (10 + n) .txAccept) (11 + n) s =
        .next { ok with phyOut := s.phyOut ++ frame.map .emit } ∧
      ∀ m < 10 + n,
        runSteps (cmdEvent (encode .send) :: (List.replicate m .txAccept ++ [.ioError])) (m + 2) s = .next { ok with
          result := { code := 0x09#8, rtnClass := 0#4, lenErrKind := false, autoRtnFail := false }
          status := { ok.status with link := .disconnected }
          intStatus := s.intStatus ||| 0x07#6
          tx := { img := frame, idx := m }
          fifo := []
          timers := { s.timers with reconn := 0#16 }
          phyOut := s.phyOut ++ (frame.take m).map .emit ++ [.closeReq] }) ∧
    (s.status.link = .connected → n ≤ 4095 → s.regs.loopback = true → s.fifo.length ≤ s.params.rxfifoDepth →
      runSteps (cmdEvent (encode .send) :: List.replicate (10 + n) .lbEmit) (11 + n) s = .next { ok with
        fifo := (s.fifo ++ frame).take s.params.rxfifoDepth
        intStatus := s.intStatus ||| (if s.params.rxfifoDepth < s.fifo.length + (10 + n) then 0x09#6 else 0x01#6) })

/-- RESPOND (42_engine.md R611): its two refusals, and 10 + TX_LEN accepted bytes that put the encoded response on the line, its
ADR and CID1 echoed from RXBUF[2] and RXBUF[3] and its CID2 the word's ARG, whatever TX_HDR holds; a line failure before the
last byte gives WRITE_FAILURE. The example of the rule follows. -/
def Obligations.RespondEchoesTheHeader : Prop :=
  (∀ rtn : Byte, encode (.respond rtn) = 0x00000006#32 ||| (rtn.setWidth 32 <<< 8)) ∧
  (∀ (s : State) (rtn : Byte), s.status.busy = false →
    let n := s.regs.txLen.toNat
    let frame := encodeFrame s.regs.cfgVer (rxbuf s 2) (rxbuf s 3) rtn (txPayload s n)
    (s.status.link ≠ .connected → exec (.respond rtn) s = .next (endedWith 0x6#4 0x0B#8 0x03#6 s)) ∧
    (s.status.link = .connected → 4095 < n → exec (.respond rtn) s = .next (endedWith 0x6#4 0x0C#8 0x03#6 s)) ∧
    (s.status.link = .connected → n ≤ 4095 → s.regs.loopback = false →
      runSteps (cmdEvent (encode (.respond rtn)) :: List.replicate (10 + n) .txAccept) (11 + n) s =
        .next { endedWith 0x6#4 0x00#8 0x01#6 s with
          tx := { img := frame, idx := 10 + n }, inbox := [], busResp := .done, phyOut := s.phyOut ++ frame.map .emit } ∧
      ∀ m < 10 + n, ∃ t,
        runSteps (cmdEvent (encode (.respond rtn)) :: (List.replicate m .txAccept ++ [.ioError])) (m + 2) s = .next t ∧
        t.result.code = 0x09#8 ∧ t.status.busy = false ∧ t.status.link = .disconnected)) ∧
  encodeFrame 0x20#8 0x01#8 0x40#8 0x04#8 [] =
    [0x7E#8, 0x20#8, 0x01#8, 0x40#8, 0x04#8, 0x00#8, 0x00#8, 0xFF#8, 0x9B#8, 0x0D#8]

/-- A RECEIVE that finds skipped bytes and then a valid frame in the FIFO stores exactly that frame, whatever bytes it holds,
finishes OK in the step that stores its last byte, and leaves what follows in the FIFO (41_transport.md R514, R540 to R544). -/
def Obligations.ReceiveReconstructsAFrame : Prop :=
  ∀ (s : State) (skipped payload rest : List Byte) (adr c1 c2 : Byte),
    s.status.busy = false → s.status.link = .connected → payload.length ≤ 4095 → (∀ b ∈ skipped, b ≠ 0x7E#8) →
    s.fifo = skipped ++ encodeFrame s.regs.cfgVer adr c1 c2 payload ++ rest →
    let n := 10 + payload.length
    ∃ t, runSteps (cmdEvent (encode .receive) :: List.replicate (skipped.length + n) .rxConsume) (skipped.length + n + 1) s =
        .next t ∧
      t.result = { code := 0x00#8, rtnClass := 0#4, lenErrKind := false, autoRtnFail := false } ∧
      t.status = { s.status with busy := false, phase := .none, rxst := .idle, op := 0x4#4 } ∧
      t.intStatus = s.intStatus ||| 0x01#6 ∧ t.rxFlen.toNat = n ∧
      rxImage t n = encodeFrame s.regs.cfgVer adr c1 c2 payload ∧
      (∀ a, a < 0x2000 ∨ 0x2000 + n ≤ a → byteAt t a = byteAt s a) ∧ t.fifo = rest ∧
      t.counters.skip = s.counters.skip + BitVec.ofNat 16 skipped.length ∧ t.counters.discard = s.counters.discard ∧
      t.counters.attempt = 0#8 ∧ t.counters.framesOk = s.counters.framesOk + 1#16 ∧
      t.regs = s.regs ∧ t.phyOut = s.phyOut

/-- A RECEIVE on a silent line, with nothing in the FIFO, goes on until the tick at which the attempts run out or the frame
deadline passes, whichever comes first, and ends there with RECEIVE_TIMEOUT (41_transport.md R545 to R548). -/
def Obligations.SilentReceiveTimesOut : Prop :=
  ∀ s : State, s.status.busy = false → s.status.link = .connected → s.fifo = [] →
    let attempts := max s.regs.tmoByte.toNat 1 * max s.regs.retryLimit.toNat 1
    let n := if s.regs.tmoFrame = 0#24 then attempts else min s.regs.tmoFrame.toNat attempts
    let es := cmdEvent (encode .receive) :: List.replicate n .tick
    (∀ m < n, ∃ t, runSteps es (m + 1) s = .next t ∧ t.status.busy = true ∧ t.status.phase = .rx) ∧
    (∃ t, runSteps es (n + 1) s = .next t ∧ t.status.busy = false ∧ t.status.phase = .none ∧
      t.result = { code := 0x05#8, rtnClass := 0#4, lenErrKind := false, autoRtnFail := false } ∧
      t.intStatus = s.intStatus ||| 0x03#6 ∧ t.rxFlen = 0#13 ∧ t.status.link = .connected)

/-- The loopback self-test law (42_engine.md R630). -/
def Obligations.LoopbackSelfTest : Prop :=
  ∀ s : State, s.status.busy = false → s.regs.loopback = true → s.status.link = .connected → s.fifo = [] →
    s.regs.txLen.toNat ≤ 4095 → 10 + s.regs.txLen.toNat ≤ s.params.rxfifoDepth →
    let n := 10 + s.regs.txLen.toNat
    let c2 : Byte := s.regs.txHdr.extractLsb' 16 8
    ∃ t, runLine (.cmd .transact) s = .next t ∧ internalEnabled t = false ∧ t.status.busy = false ∧
      rxImage t n = encodeFrame s.regs.cfgVer (s.regs.txHdr.extractLsb' 0 8) (s.regs.txHdr.extractLsb' 8 8) c2
        (txPayload s s.regs.txLen.toNat) ∧
      t.rxFlen.toNat = n ∧ t.counters.framesOk = s.counters.framesOk + 1#16 ∧
      t.result.code = (if c2 = 0x00#8 then 0x00#8 else 0x07#8) ∧ t.result.rtnClass = rtnClassOf c2 ∧
      t.result.lenErrKind = false ∧ t.result.autoRtnFail = false ∧
      t.phyOut = s.phyOut ∧ t.fifo = []

/-! ### The link (41_transport.md R501 to R505) -/

/-- The open outcomes (41_transport.md R501, R502). -/
def Obligations.OpenOutcome : Prop :=
  ∀ s : State, s.status.link = .connecting →
    (nextEvent s = .openOk → step s = .next (
      let u := takeEvent s
      if s.status.phase = .opening then { u with
        status := { s.status with link := .connected, armed := true, busy := false, phase := .none, rxst := .idle }
        result := { s.result with code := 0x00#8 }
        intStatus := s.intStatus ||| 0x05#6
        fifo := [] }
      else { u with
        status := { s.status with link := .connected, armed := true }
        intStatus := s.intStatus ||| 0x04#6
        fifo := [] })) ∧
    (nextEvent s = .openFail → step s = .next (
      let u := takeEvent s
      if s.status.phase = .opening then { u with
        status := { s.status with link := .disconnected, armed := false, busy := false, phase := .none, rxst := .idle }
        result := { s.result with code := 0x08#8 }
        intStatus := s.intStatus ||| 0x07#6
        fifo := []
        timers := { s.timers with reconn := 0#16 } }
      else { u with
        status := { s.status with link := .disconnected }
        intStatus := s.intStatus ||| 0x04#6
        fifo := []
        timers := { s.timers with reconn := 0#16 } }))

/-- The part of a tick that reconnects by itself (41_transport.md R503). -/
def Obligations.ReconnectTick : Prop :=
  ∀ s : State, nextEvent s = .tick → internalEnabled s = false → s.status.phase ≠ .rx →
    let u := takeEvent s
    let r := min (s.timers.reconn.toNat + 1) 0xFFFF
    (s.status.link = .disconnected → s.status.armed = true → max s.regs.reconnIvl.toNat 1 ≤ r → step s = .next { u with
      timers := { s.timers with reconn := 0#16 }
      status := { s.status with link := .connecting }
      intStatus := s.intStatus ||| 0x04#6
      phyOut := s.phyOut ++ [.openReq s.regs.lineCfg] }) ∧
    (s.status.link = .disconnected → s.status.armed = true → r < max s.regs.reconnIvl.toNat 1 → step s = .next { u with
      timers := { s.timers with reconn := BitVec.ofNat 16 r } }) ∧
    (s.status.link ≠ .disconnected ∨ s.status.armed = false → step s = .next u)

/-- `io_error` (41_transport.md R504). -/
def Obligations.LineFailure : Prop :=
  ∀ s : State, nextEvent s = .ioError → s.status.link = .connected →
    let down : State := { takeEvent s with
      status := { s.status with link := .disconnected }
      intStatus := s.intStatus ||| 0x04#6
      phyOut := s.phyOut ++ [.closeReq]
      fifo := []
      timers := { s.timers with reconn := 0#16 } }
    (s.status.phase = .none → step s = .next down) ∧
    (s.status.phase = .rx → step s = .next (finish 0x0A#8 down)) ∧
    (s.status.phase = .tx → s.status.op ≠ 0x4#4 → step s = .next (finish 0x09#8 down)) ∧
    (s.status.phase = .tx → s.status.op = 0x4#4 →
      step s = .next (finish s.autoRtnCode { down with result := { s.result with autoRtnFail := true } }))

/-- The derived link facts (41_transport.md R505): CONNECTED means ARMED, the only transitions and what makes them, no state is
terminal, and DISCONNECTED with ARMED = 0 is left only by a CONNECT. -/
def Obligations.LinkTransitions : Prop :=
  (∀ s : State, s.Inv → s.status.link = .connected → s.status.armed = true) ∧
  (∀ s t : State, step s = .next t → t.status.link ≠ s.status.link →
    (s.status.link = .disconnected ∧ t.status.link = .connecting ∧
      ((nextEvent s = .tick ∧ s.status.armed = true) ∨ nextEvent s = cmdEvent 0x00000001#32)) ∨
    (s.status.link = .connecting ∧ t.status.link = .connected ∧ nextEvent s = .openOk) ∨
    (s.status.link = .connecting ∧ t.status.link = .disconnected ∧
      (nextEvent s = .openFail ∨ nextEvent s = cmdEvent 0x00000002#32 ∨ nextEvent s = .reset)) ∨
    (s.status.link = .connected ∧ t.status.link = .disconnected ∧
      (nextEvent s = .ioError ∨ nextEvent s = cmdEvent 0x00000002#32 ∨ nextEvent s = .reset))) ∧
  (∀ s : State, s.Inv →
    (s.status.link = .disconnected → nextEvent s = cmdEvent 0x00000001#32 →
      ∃ t, step s = .next t ∧ t.status.link = .connecting) ∧
    (s.status.link = .connecting → nextEvent s = .openOk → ∃ t, step s = .next t ∧ t.status.link = .connected) ∧
    (s.status.link = .connected → nextEvent s = .ioError → ∃ t, step s = .next t ∧ t.status.link = .disconnected)) ∧
  (∀ s t : State, s.status.link = .disconnected → s.status.armed = false → step s = .next t →
    nextEvent s ≠ cmdEvent 0x00000001#32 → t.status.link = .disconnected ∧ t.status.armed = false)

/-- From reset, without a CONNECT, the block stays disconnected and unarmed and makes no open attempt (70_reset R802). -/
def Obligations.ResetStaysDisconnected : Prop :=
  ∀ (depth : Nat) (ver : Byte) (s t : State) (es : List Event) (k : Nat), LaunchReset depth ver s →
    s.status.busy = false ∧ s.status.link = .disconnected ∧ s.status.armed = false ∧
    (cmdEvent 0x00000001#32 ∉ es → k ≤ es.length → runSteps es k s = .next t →
      t.status.busy = false ∧ t.status.link = .disconnected ∧ t.status.armed = false ∧ t.phyOut = s.phyOut)

/-! ### Completion and the datapaths -/

/-- `finish` (41_transport.md R520), and that a running command ends in no other way but reset: the step that ends it leaves
PHASE NONE, RXST IDLE, DONE set, and ERR set unless the code is 0. -/
def Obligations.CommandCompletion : Prop :=
  (∀ (code : Byte) (s : State), finish code s = { s with
    result := { s.result with code := code }
    status := { s.status with busy := false, phase := .none, rxst := .idle }
    intStatus := s.intStatus ||| (if code = 0x00#8 then 0x01#6 else 0x03#6) }) ∧
  (∀ s t : State, s.status.busy = true → step s = .next t → t.status.busy = false → nextEvent s ≠ .reset →
    t.status.phase = .none ∧ t.status.rxst = .idle ∧ t.intStatus.getLsbD 0 = true ∧
    (t.result.code ≠ 0x00#8 → t.intStatus.getLsbD 1 = true))

/-- The steps that send a byte, on the line and in loopback, and `tx_done` in the step that sends the last one; no tick ends a
TX phase (41_transport.md R523, R531, R532). -/
def Obligations.TransmitSteps : Prop :=
  ∀ s : State, s.status.phase = .tx → s.tx.idx < s.tx.img.length →
    let b := s.tx.img.getD s.tx.idx 0#8
    let sent (u : State) : Prop :=
      (s.tx.idx + 1 ≠ s.tx.img.length → step s = .next u) ∧
      (s.tx.idx + 1 = s.tx.img.length →
        (s.status.op = 0x3#4 ∨ s.status.op = 0x6#4 → step s = .next (finish 0x00#8 u)) ∧
        (s.status.op = 0x5#4 → step s = .next (startRx u)) ∧
        (s.status.op = 0x4#4 → step s = .next (finish s.autoRtnCode u)))
    let u : State := { takeEvent s with tx := { s.tx with idx := s.tx.idx + 1 } }
    (nextEvent s = .txAccept → s.regs.loopback = false → sent { u with phyOut := s.phyOut ++ [.emit b] }) ∧
    (nextEvent s = .lbEmit → s.regs.loopback = true →
      sent (if s.fifo.length = s.params.rxfifoDepth then { u with intStatus := s.intStatus ||| 0x08#6 }
            else { u with fifo := s.fifo ++ [b] })) ∧
    (nextEvent s = .tick → s.regs.loopback = false → s.status.link = .connected → step s = .next (takeEvent s))

/-- `rx_byte` (41_transport.md R530). -/
def Obligations.ReceivedByte : Prop :=
  ∀ (s : State) (b : Byte), nextEvent s = .rxByte b →
    (s.status.link ≠ .connected ∨ s.regs.loopback = true → step s = .next (takeEvent s)) ∧
    (s.status.link = .connected → s.regs.loopback = false → s.fifo.length = s.params.rxfifoDepth →
      step s = .next { takeEvent s with intStatus := s.intStatus ||| 0x08#6 }) ∧
    (s.status.link = .connected → s.regs.loopback = false → s.fifo.length ≠ s.params.rxfifoDepth →
      step s = .next { takeEvent s with fifo := s.fifo ++ [b] })

/-- `rx_consume` while hunting (41_transport.md R540, R541). -/
def Obligations.HuntForStart : Prop :=
  ∀ (s : State) (b : Byte) (rest : List Byte), nextEvent s = .rxConsume → s.status.phase = .rx → s.status.rxst = .hunt →
    s.fifo = b :: rest →
    let u : State := { takeEvent s with fifo := rest, timers := { s.timers with byte := 0#16 } }
    (b = 0x7E#8 → ∃ t, step s = .next t ∧
      t = { u with mem := t.mem, rx := { s.rx with idx := 1 }, status := { s.status with rxst := .collect } } ∧
      rxbuf t 0 = 0x7E#8 ∧ ∀ a, a ≠ 0x2000 → byteAt t a = byteAt s a) ∧
    (b ≠ 0x7E#8 → step s = .next { u with counters := { s.counters with skip := s.counters.skip + 1#16 } })

/-- `rx_consume` while collecting (41_transport.md R540, R542): the byte is stored at rx_idx; the seventh settles rx_need from
the 12 LENID bits alone; at the EOI position a wrong byte discards the frame and hunting resumes, a right one sets RX_FLEN and
runs `frame_done`. -/
def Obligations.CollectTheFrame : Prop :=
  ∀ (s : State) (b : Byte) (rest : List Byte), nextEvent s = .rxConsume → s.status.phase = .rx → s.status.rxst = .collect →
    s.fifo = b :: rest → s.rx.idx < 4105 →
    let idx := s.rx.idx + 1
    ∃ u : State,
      (u = { takeEvent s with fifo := rest, timers := { s.timers with byte := 0#16 }, mem := u.mem, rx := u.rx } ∧
       rxbuf u s.rx.idx = b ∧ (∀ a, a ≠ 0x2000 + s.rx.idx → byteAt u a = byteAt s a) ∧ u.rx.idx = idx ∧
       u.rx.need = if idx = 7 then 10 + ((rxbuf u 5).extractLsb' 0 4 ++ rxbuf u 6).toNat else s.rx.need) ∧
      (¬(10 ≤ idx ∧ idx = u.rx.need) → step s = .next u) ∧
      (10 ≤ idx ∧ idx = u.rx.need → b ≠ 0x0D#8 → step s = .next { u with
        counters := { s.counters with discard := s.counters.discard + 1#16 }
        status := { s.status with rxst := .hunt }
        rx := { u.rx with idx := 0 } }) ∧
      (10 ≤ idx ∧ idx = u.rx.need → b = 0x0D#8 → step s = frameDone { u with rxFlen := BitVec.ofNat 13 u.rx.need })

/-- `frame_done` (41_transport.md R543), and that the frame a reconstruction completes can only validate OK or fail on its
version, its length nibble or its checksum. -/
def Obligations.FrameDone : Prop :=
  (∀ s : State,
    let v := validateImage (rxImage s s.rxFlen.toNat) s.regs.cfgVer
    let u : State := { s with
      result := { s.result with lenErrKind := v.2 }
      status := { s.status with rxst := .idle }
      counters := { s.counters with
        framesOk := if v.1 = 0x00#8 then s.counters.framesOk + 1#16 else s.counters.framesOk } }
    (s.status.op = 0x4#4 → frameDone s = .next (receiveDone v.1 u)) ∧
    (s.status.op = 0x5#4 → frameDone s = .next (transactDone v.1 u))) ∧
  (∀ s t : State, s.Inv → s.status.phase = .rx → rxConsume s = .next t → t.status.phase ≠ .rx →
    rxbuf t 0 = 0x7E#8 ∧ rxbuf t (t.rxFlen.toNat - 1) = 0x0D#8 ∧
    t.rxFlen.toNat = 10 + ((rxbuf t 5).extractLsb' 0 4 ++ rxbuf t 6).toNat ∧
    validateImage (rxImage t t.rxFlen.toNat) t.regs.cfgVer ∈
      [(0x00#8, false), (0x01#8, false), (0x03#8, false), (0x02#8, false)])

/-- `receive_done` (41_transport.md R544) with the automatic error response it begins, and how that response ends the RECEIVE
(42_engine.md R620). -/
def Obligations.ReceiveDoneOrAnswer : Prop :=
  ∀ (s : State) (code : Byte),
    ((code = 0x01#8 ∨ code = 0x02#8 ∨ code = 0x03#8) → s.regs.autoRtn = true → receiveDone code s = { s with
      autoRtnCode := code
      tx := { img := encodeFrame s.regs.cfgVer (rxbuf s 2) (rxbuf s 3) code [], idx := 0 }
      status := { s.status with busy := true, phase := .tx } }) ∧
    (¬(code = 0x01#8 ∨ code = 0x02#8 ∨ code = 0x03#8) ∨ s.regs.autoRtn = false → receiveDone code s = finish code s) ∧
    (s.status.op = 0x4#4 → txDone s = .next (finish s.autoRtnCode s))

/-- `transact_done` (42_engine.md R612). -/
def Obligations.TransactDone : Prop :=
  ∀ (s : State) (code : Byte),
    (code ≠ 0x00#8 → transactDone code s = finish code s) ∧
    (code = 0x00#8 → transactDone code s =
      finish (if rxbuf s 4 = 0x00#8 then 0x00#8 else 0x07#8)
        { s with result := { s.result with rtnClass := rtnClassOf (rxbuf s 4) } })

/-- The part of a tick that an RX phase takes (41_transport.md R545), with the frame deadline checked first, and the code of a
timeout (R547). -/
def Obligations.ReceiveTick : Prop :=
  ∀ s : State, nextEvent s = .tick → internalEnabled s = false → s.status.phase = .rx → s.status.link = .connected →
    s.status.op = 0x4#4 ∨ s.status.op = 0x5#4 →
    let u := takeEvent s
    let f := min (s.timers.frame.toNat + 1) 0xFFFFFF
    let b := min (s.timers.byte.toNat + 1) 0xFFFF
    let code := if s.status.op = 0x4#4 then 0x05#8 else 0x06#8
    let discard := if s.status.rxst = .collect then s.counters.discard + 1#16 else s.counters.discard
    let rxIdx := if s.status.rxst = .collect then 0 else s.rx.idx
    let deadline := s.regs.tmoFrame ≠ 0#24 ∧ s.regs.tmoFrame.toNat ≤ f
    let attempt := s.counters.attempt + 1#8
    let next : State := { u with
      timers := { s.timers with frame := BitVec.ofNat 24 f, byte := 0#16 }
      counters := { s.counters with discard := discard, attempt := attempt }
      status := { s.status with rxst := if s.status.rxst = .collect then .hunt else s.status.rxst }
      rx := { s.rx with idx := rxIdx } }
    (deadline → step s = .next (finish code { u with
      timers := { s.timers with frame := BitVec.ofNat 24 f }
      counters := { s.counters with discard := discard } })) ∧
    (¬deadline → b < max s.regs.tmoByte.toNat 1 → step s = .next { u with
      timers := { s.timers with frame := BitVec.ofNat 24 f, byte := BitVec.ofNat 16 b } }) ∧
    (¬deadline → max s.regs.tmoByte.toNat 1 ≤ b → attempt.toNat < max s.regs.retryLimit.toNat 1 → step s = .next next) ∧
    (¬deadline → max s.regs.tmoByte.toNat 1 ≤ b → max s.regs.retryLimit.toNat 1 ≤ attempt.toNat →
      step s = .next (finish code next))

/-- With TMO_FRAME = T ≠ 0 no RX phase goes on past its T-th tick: every tick that does not end the phase counts one in
frame_timer and leaves it below T; and, for every T, nothing else moves frame_timer while the phase goes on (10_state.md R153,
41_transport.md R545, R546, R548). -/
def Obligations.DeadlineBoundsTheRxPhase : Prop :=
  ∀ s t : State, s.Inv → s.status.phase = .rx → step s = .next t → t.status.phase = .rx →
    (nextEvent s = .tick → internalEnabled s = false → s.regs.tmoFrame ≠ 0#24 →
      t.timers.frame.toNat = s.timers.frame.toNat + 1 ∧ t.timers.frame.toNat < s.regs.tmoFrame.toNat) ∧
    (nextEvent s ≠ .tick ∨ internalEnabled s = true → t.timers.frame = s.timers.frame)

/-! ### The host window (20_memory.md) -/

/-- Which accesses are bus errors, and that a bus error changes no state: only the response to the host (20_memory.md R207,
R208). -/
def Obligations.BusErrors : Prop :=
  ∀ (s : State) (a : BitVec 16) (n : Nat) (v : Word),
    let bad := ¬(n = 1 ∨ n = 2 ∨ n = 4) ∨ a.toNat % n ≠ 0 ∨ (a.toNat < 0x0060 ∧ n ≠ 4) ∨
      (0x0060 ≤ a.toNat ∧ a.toNat < 0x1000) ∨ 0x3009 ≤ a.toNat ∨ (0x2000 ≤ a.toNat ∧ 0x3009 < a.toNat + n)
    (bad → hostRead a n s = { s with busResp := .busError } ∧ hostWrite a n v s = .next { s with busResp := .busError }) ∧
    (¬bad → (∃ d, hostRead a n s = { s with busResp := .data d }) ∧ ∃ t, hostWrite a n v s = .next t ∧ t.busResp = .done)

/-- A host read changes nothing but the response, and a second read gives the same response (20_memory.md R209). -/
def Obligations.ReadsChangeNothing : Prop :=
  ∀ (s : State) (a : BitVec 16) (n : Nat), nextEvent s = .hostRead a n →
    ∃ r, step s = .next { takeEvent s with busResp := r } ∧
      ∀ q, (hostRead a n { takeEvent s with busResp := q }).busResp = r

/-- The byte at address a + k is bits [8k+7:8k] of the value written or read, and no other byte is touched (20_memory.md R205;
the 4-byte width of registers is in `BusErrors`). -/
def Obligations.LittleEndianBuffers : Prop :=
  ∀ (s : State) (a : BitVec 16) (n : Nat), n = 1 ∨ n = 2 ∨ n = 4 → a.toNat % n = 0 →
    (0x1000 ≤ a.toNat ∧ a.toNat + n ≤ 0x2000) ∨ (0x2000 ≤ a.toNat ∧ a.toNat + n ≤ 0x3009) →
    (∃ d, (hostRead a n s).busResp = .data d ∧
      ∀ k < 4, d.extractLsb' (8 * k) 8 = if k < n then byteAt s (a.toNat + k) else 0#8) ∧
    (∀ v : Word, ¬(a.toNat < 0x2000 ∧ s.status.phase = .tx) → ¬(0x2000 ≤ a.toNat ∧ s.status.phase = .rx) →
      ∃ t, hostWrite a n v s = .next t ∧ t = { s with mem := t.mem, busResp := .done } ∧
        (∀ k < n, byteAt t (a.toNat + k) = v.extractLsb' (8 * k) 8) ∧
        ∀ x, x < a.toNat ∨ a.toNat + n ≤ x → byteAt t x = byteAt s x)

/-- The buffer locks: a write to TXBUF in a TX phase, to RXBUF or RX_FLEN in an RX phase, is dropped as a whole, sets BUF_VIOL
and completes (20_memory.md R213). -/
def Obligations.BufferLocks : Prop :=
  ∀ (s : State) (a : BitVec 16) (n : Nat) (v : Word), n = 1 ∨ n = 2 ∨ n = 4 → a.toNat % n = 0 →
    (s.status.phase = .tx → 0x1000 ≤ a.toNat → a.toNat + n ≤ 0x2000 →
      hostWrite a n v s = .next { s with busResp := .done, intStatus := s.intStatus ||| 0x20#6 }) ∧
    (s.status.phase = .rx → 0x2000 ≤ a.toNat → a.toNat + n ≤ 0x3009 →
      hostWrite a n v s = .next { s with busResp := .done, intStatus := s.intStatus ||| 0x20#6 }) ∧
    (s.status.phase = .rx →
      hostWrite 0x0044#16 4 v s = .next { s with busResp := .done, intStatus := s.intStatus ||| 0x20#6 })

/-- Reserved bits read 0 and ignore writes, a write to a read-only register changes nothing, and CMD reads 0
(10_state.md R134). -/
def Obligations.ReservedBitsAndReadOnly : Prop :=
  ∀ (s : State) (v : Word),
    (∀ r ∈ [(0x004, 0x00000003#32), (0x00C, 0x00000FFF#32), (0x010, 0x00003FFF#32), (0x014, 0x0000003F#32),
        (0x018, 0x0000003F#32), (0x01C, 0x000000FF#32), (0x024, 0x0000FFFF#32), (0x028, 0x000000FF#32),
        (0x02C, 0x00FFFFFF#32), (0x030, 0x0000FFFF#32), (0x034, 0x00FFFFFF#32), (0x038, 0x0000FFFF#32),
        (0x040, 0x000FFFFF#32), (0x044, 0x00001FFF#32), (0x04C, 0x0000FFFF#32), (0x050, 0x0000FFFF#32),
        (0x054, 0x000000FF#32), (0x058, 0x0000FFFF#32), (0x05C, 0x0000FFFF#32)],
      regRead r.1 s &&& ~~~r.2 = 0#32 ∧ regWrite r.1 v s = regWrite r.1 (v &&& r.2) s) ∧
    (∀ a ∈ [0x0000#16, 0x000C#16, 0x0010#16, 0x003C#16, 0x0040#16, 0x0048#16, 0x0054#16, 0x005C#16],
      hostWrite a 4 v s = .next { s with busResp := .done }) ∧
    regRead 0x008 s = 0#32

/-- The host's access to the registers (20_memory.md R206): a read of any register answers `regRead` and changes nothing else, a
write to any but CMD is `regWrite`. The exact state a write to each plain read-write register leaves; it reads back the bits
written, and every other register reads as before (10_state.md R111, R116 to R124, R129, R130, R132). A write to RX_FLEN outside
an RX phase (R127; in one it is dropped, `BufferLocks`). -/
def Obligations.RegisterReadBack : Prop :=
  ∀ (s : State) (v : Word),
    (∀ a : BitVec 16, a.toNat % 4 = 0 → a.toNat ≤ 0x005C →
      hostRead a 4 s = { s with busResp := .data (regRead a.toNat s) } ∧
      (a ≠ 0x0008#16 → hostWrite a 4 v s = .next (regWrite a.toNat v { s with busResp := .done }))) ∧
    (let u : State := { s with busResp := .done }
     hostWrite 0x0004#16 4 v s =
       .next { u with regs := { s.regs with autoRtn := v.getLsbD 0, loopback := v.getLsbD 1 } } ∧
     hostWrite 0x0018#16 4 v s = .next { u with regs := { s.regs with intEnable := v.extractLsb' 0 6 } } ∧
     hostWrite 0x001C#16 4 v s = .next { u with regs := { s.regs with cfgVer := v.extractLsb' 0 8 } } ∧
     hostWrite 0x0020#16 4 v s = .next { u with regs := { s.regs with lineCfg := v } } ∧
     hostWrite 0x0024#16 4 v s = .next { u with regs := { s.regs with tmoByte := v.extractLsb' 0 16 } } ∧
     hostWrite 0x0028#16 4 v s = .next { u with regs := { s.regs with retryLimit := v.extractLsb' 0 8 } } ∧
     hostWrite 0x002C#16 4 v s = .next { u with regs := { s.regs with tmoFrame := v.extractLsb' 0 24 } } ∧
     hostWrite 0x0030#16 4 v s = .next { u with regs := { s.regs with reconnIvl := v.extractLsb' 0 16 } } ∧
     hostWrite 0x0034#16 4 v s = .next { u with regs := { s.regs with txHdr := v.extractLsb' 0 24 } } ∧
     hostWrite 0x0038#16 4 v s = .next { u with regs := { s.regs with txLen := v.extractLsb' 0 16 } } ∧
     hostWrite 0x004C#16 4 v s = .next { u with counters := { s.counters with skip := v.extractLsb' 0 16 } } ∧
     hostWrite 0x0050#16 4 v s = .next { u with counters := { s.counters with discard := v.extractLsb' 0 16 } } ∧
     hostWrite 0x0058#16 4 v s = .next { u with counters := { s.counters with framesOk := v.extractLsb' 0 16 } }) ∧
    (∀ r ∈ [(0x0004#16, 0x00000003#32), (0x0018#16, 0x0000003F#32), (0x001C#16, 0x000000FF#32),
        (0x0020#16, 0xFFFFFFFF#32), (0x0024#16, 0x0000FFFF#32), (0x0028#16, 0x000000FF#32), (0x002C#16, 0x00FFFFFF#32),
        (0x0030#16, 0x0000FFFF#32), (0x0034#16, 0x00FFFFFF#32), (0x0038#16, 0x0000FFFF#32), (0x004C#16, 0x0000FFFF#32),
        (0x0050#16, 0x0000FFFF#32), (0x0058#16, 0x0000FFFF#32)],
      ∃ t, hostWrite r.1 4 v s = .next t ∧ hostRead r.1 4 t = { t with busResp := .data (v &&& r.2) } ∧
        (∀ q : BitVec 16, q ≠ r.1 → q.toNat % 4 = 0 → q.toNat ≤ 0x005C →
          (hostRead q 4 t).busResp = (hostRead q 4 s).busResp) ∧
        ∀ a, byteAt t a = byteAt s a) ∧
    (s.status.phase ≠ .rx → ∃ t, hostWrite 0x0044#16 4 v s = .next t ∧
      t = { s with busResp := .done, rxFlen := v.extractLsb' 0 13 } ∧
      hostRead 0x0044#16 4 t = { t with busResp := .data (v &&& 0x00001FFF#32) } ∧
      ∀ q : BitVec 16, q ≠ 0x0044#16 → q ≠ 0x0048#16 → q.toNat % 4 = 0 → q.toNat ≤ 0x005C →
        (hostRead q 4 t).busResp = (hostRead q 4 s).busResp)

/-- A host write to INT_STATUS clears the bits whose data bit is 1 and no others, and no other step but reset clears a flag
(60_exceptions.md R721; 10_state.md R135). -/
def Obligations.FlagsClearedOnlyByHost : Prop :=
  (∀ (s : State) (v : Word), nextEvent s = .hostWrite 0x0014#16 4 v →
    step s = .next { takeEvent s with busResp := .done, intStatus := s.intStatus &&& ~~~(v.setWidth 6) }) ∧
  (∀ (s t : State) (k : Nat), step s = .next t → s.intStatus.getLsbD k = true → t.intStatus.getLsbD k = false →
    nextEvent s = .reset ∨ ∃ v, nextEvent s = .hostWrite 0x0014#16 4 v ∧ v.getLsbD k = true)

/-- The interrupt output: a level, the OR over the six bits of pending and enabled; INT_ENABLE reads back its six bits and
resets to 0 (10_state.md R116). -/
def Obligations.InterruptLevel : Prop :=
  (∀ s : State, irq s = true ↔ ∃ i < 6, s.intStatus.getLsbD i = true ∧ s.regs.intEnable.getLsbD i = true) ∧
  (∀ (s : State) (v : Word), hostWrite 0x0018#16 4 v s =
    .next { s with busResp := .done, regs := { s.regs with intEnable := v.setWidth 6 } }) ∧
  regRead 0x018 State.reset = 0#32

/-- What the host reads of the receive side: the views RX_HDR, RX_LENFIELD and RX_CHK of RXBUF (10_state.md R125, R126, R128),
and the registers RX_FLEN, CNT_ATTEMPT and RXFIFO_LEVEL (R127, R131, R133). The FIFO is at most 65535 bytes long in every state
that meets the invariant (R152). -/
def Obligations.ReceiveViews : Prop :=
  ∀ s : State,
    (let w := regRead 0x03C s
     w.extractLsb' 0 8 = rxbuf s 1 ∧ w.extractLsb' 8 8 = rxbuf s 2 ∧ w.extractLsb' 16 8 = rxbuf s 3 ∧
     w.extractLsb' 24 8 = rxbuf s 4) ∧
    (let w := regRead 0x040 s
     w.extractLsb' 0 12 = (rxbuf s 5).extractLsb' 0 4 ++ rxbuf s 6 ∧ w.extractLsb' 12 4 = (rxbuf s 5).extractLsb' 4 4 ∧
     w.extractLsb' 16 4 = lchk (w.extractLsb' 0 12).toNat ∧ w.extractLsb' 20 12 = 0#12) ∧
    (let w := regRead 0x048 s
     let l := s.rxFlen.toNat
     (10 ≤ l → l ≤ 4105 → w.extractLsb' 0 16 = rxbuf s (l - 3) ++ rxbuf s (l - 2) ∧
       w.extractLsb' 16 16 = chksum ((List.range (l - 4)).map fun i => rxbuf s (1 + i))) ∧
     (l < 10 ∨ 4105 < l → w = 0#32)) ∧
    (∀ a ∈ [0x003C#16, 0x0040#16, 0x0048#16], hostRead a 4 s = { s with busResp := .data (regRead a.toNat s) }) ∧
    (∃ w, hostRead 0x0044#16 4 s = { s with busResp := .data w } ∧ w.extractLsb' 0 13 = s.rxFlen ∧
      w.extractLsb' 13 19 = 0#19) ∧
    (∃ w, hostRead 0x0054#16 4 s = { s with busResp := .data w } ∧ w.extractLsb' 0 8 = s.counters.attempt ∧
      w.extractLsb' 8 24 = 0#24) ∧
    (s.fifo.length ≤ 65535 → ∃ w, hostRead 0x005C#16 4 s = { s with busResp := .data w } ∧
      (w.extractLsb' 0 16).toNat = s.fifo.length ∧ w.extractLsb' 16 16 = 0#16)

/-- STATUS, RESULT and INT_STATUS as the host reads them: the layout of RESULT and INT_STATUS in every state (10_state.md R114,
R115); the layout of STATUS and the invariants of its fields in every state that meets the invariant of reachable states, and its
reset value 0 (R113); RESULT reads 0 while BUSY = 1, and each field beside CODE is 0 unless CODE is one it goes with (R114). -/
def Obligations.StatusRegister : Prop :=
  regRead 0x00C State.reset = 0#32 ∧
  (∀ s : State,
    hostRead 0x000C#16 4 s = { s with busResp := .data (regRead 0x00C s) } ∧
    (∃ w, hostRead 0x0010#16 4 s = { s with busResp := .data w } ∧ w.extractLsb' 0 8 = s.result.code ∧
      w.extractLsb' 8 4 = s.result.rtnClass ∧ w.getLsbD 12 = s.result.lenErrKind ∧ w.getLsbD 13 = s.result.autoRtnFail ∧
      w.extractLsb' 14 18 = 0#18) ∧
    (∃ w, hostRead 0x0014#16 4 s = { s with busResp := .data w } ∧ w.extractLsb' 0 6 = s.intStatus ∧
      w.extractLsb' 6 26 = 0#26)) ∧
  ∀ s : State, s.Inv →
    let w := regRead 0x00C s
    (w.getLsbD 0 = s.status.busy ∧ w.getLsbD 3 = s.status.armed ∧ w.extractLsb' 8 4 = s.status.op ∧
     w.extractLsb' 12 20 = 0#20 ∧
     (w.extractLsb' 1 2 = 0#2 ↔ s.status.link = .disconnected) ∧ (w.extractLsb' 1 2 = 1#2 ↔ s.status.link = .connecting) ∧
     (w.extractLsb' 1 2 = 2#2 ↔ s.status.link = .connected) ∧ w.extractLsb' 1 2 ≠ 3#2 ∧
     (w.extractLsb' 4 2 = 0#2 ↔ s.status.phase = .none) ∧ (w.extractLsb' 4 2 = 1#2 ↔ s.status.phase = .opening) ∧
     (w.extractLsb' 4 2 = 2#2 ↔ s.status.phase = .tx) ∧ (w.extractLsb' 4 2 = 3#2 ↔ s.status.phase = .rx) ∧
     (w.extractLsb' 6 2 = 0#2 ↔ s.status.rxst = .idle) ∧ (w.extractLsb' 6 2 = 1#2 ↔ s.status.rxst = .hunt) ∧
     (w.extractLsb' 6 2 = 2#2 ↔ s.status.rxst = .collect) ∧ w.extractLsb' 6 2 ≠ 3#2) ∧
    (w.getLsbD 0 = true ↔ w.extractLsb' 4 2 ≠ 0#2) ∧ (w.extractLsb' 6 2 ≠ 0#2 ↔ w.extractLsb' 4 2 = 3#2) ∧
    (w.extractLsb' 4 2 = 2#2 ∨ w.extractLsb' 4 2 = 3#2 → w.extractLsb' 1 2 = 2#2) ∧
    (w.extractLsb' 4 2 = 1#2 → w.extractLsb' 1 2 = 1#2) ∧
    let r := regRead 0x010 s
    (w.getLsbD 0 = true → r = 0#32) ∧ (r.extractLsb' 8 4 ≠ 0#4 → r.extractLsb' 0 8 = 0x07#8) ∧
    (r.getLsbD 12 = true → r.extractLsb' 0 8 = 0x03#8) ∧
    (r.getLsbD 13 = true → r.extractLsb' 0 8 = 0x01#8 ∨ r.extractLsb' 0 8 = 0x02#8 ∨ r.extractLsb' 0 8 = 0x03#8)

/-- TXBUF changes only by reset or by a host write to it outside a TX phase: the block never writes it (10_state.md R140). -/
def Obligations.TxbufOnlyTheHostWrites : Prop :=
  ∀ (s t : State) (a : Nat), 0x1000 ≤ a → a < 0x2000 → step s = .next t → byteAt t a ≠ byteAt s a →
    nextEvent s = .reset ∨
    ∃ b n v, nextEvent s = .hostWrite b n v ∧ b.toNat ≤ a ∧ a < b.toNat + n ∧ s.status.phase ≠ .tx

/-! ### The frame codec (40_frame_codec.md, 42_engine.md) -/

/-- The length checksum (R402): it cancels low byte, high nibble and length modulo 16, equals the short form, and has the
listed values. -/
def Obligations.LengthChecksum : Prop :=
  (∀ n ≤ 4095,
    ((lchk n).toNat + (n % 256 + n / 256 % 16 + n)) % 16 = 0 ∧
    (lchk n).toNat = (16 - (2 * (n % 256) + n / 256 % 16) % 16) % 16) ∧
  lchk 0 = 0x0#4 ∧ lchk 1 = 0xE#4 ∧ lchk 4 = 0x8#4 ∧ lchk 8 = 0x0#4 ∧ lchk 0x100 = 0xF#4 ∧ lchk 4095 = 0x3#4

/-- The laws of `encode` (40_frame_codec.md R405). -/
def Obligations.EncodeLaws : Prop :=
  ∀ (ver adr c1 c2 : Byte) (p : List Byte), p.length ≤ 4095 →
    let f := encodeFrame ver adr c1 c2 p
    f.length = 10 + p.length ∧ f.head? = some 0x7E#8 ∧ f.getLast? = some 0x0D#8 ∧
    validateImage f ver = (0x00#8, false) ∧ f[3]? = some c1 ∧ f[4]? = some c2 ∧ (f.drop 7).take p.length = p

/-- `validate` accepts exactly the encoded frames of its version byte (40_frame_codec.md R404, R405, R410). -/
def Obligations.ValidateAcceptsExactlyFrames : Prop :=
  ∀ (img : List Byte) (ver : Byte), (validateImage img ver).1 = 0x00#8 ↔
    ∃ adr c1 c2 p, p.length ≤ 4095 ∧ img = encodeFrame ver adr c1 c2 p

/-- One flipped payload bit of a valid frame gives CHECKSUM_MISMATCH (40_frame_codec.md R408). -/
def Obligations.ChecksumSensitivity : Prop :=
  ∀ (img : List Byte) (ver : Byte) (i k : Nat), validateImage img ver = (0x00#8, false) → i + 10 < img.length → k < 8 →
    validateImage (img.set (7 + i) (img.getD (7 + i) 0#8 ^^^ (1#8 <<< k))) ver = (0x02#8, false)

/-- The length-checksum corner cases (40_frame_codec.md R409): which flips of the length field change the nibble, and that the
others are caught by the total length in a VALIDATE, or by a reconstruction reading another number of bytes. -/
def Obligations.LengthFieldFlips : Prop :=
  (∀ hi lo : Byte, ∀ j < 4, lchk (lenId (hi ^^^ (1#8 <<< j)) lo).toNat ≠ lchk (lenId hi lo).toNat) ∧
  (∀ hi lo : Byte, ∀ j < 4, lchkNibble hi = lchk (lenId hi lo).toNat →
    lchkNibble (hi ^^^ (1#8 <<< (4 + j))) ≠ lchk (lenId (hi ^^^ (1#8 <<< (4 + j))) lo).toNat) ∧
  (∀ hi lo : Byte, ∀ j, 3 ≤ j → j < 8 → lchk (lenId hi (lo ^^^ (1#8 <<< j))).toNat = lchk (lenId hi lo).toNat) ∧
  (∀ hi lo : Byte, ∀ j < 3, lchk (lenId hi (lo ^^^ (1#8 <<< j))).toNat ≠ lchk (lenId hi lo).toNat) ∧
  lchk 0 = lchk 8 ∧ lchk 8 = lchk 16 ∧ lchk 0 = 0x0#4 ∧
  (∀ (img : List Byte) (ver : Byte) (j : Nat), validateImage img ver = (0x00#8, false) → 3 ≤ j → j < 8 →
    validateImage (img.set 6 (img.getD 6 0#8 ^^^ (1#8 <<< j))) ver = (0x03#8, true)) ∧
  (∀ hi lo : Byte, ∀ j < 8, minFrame + (lenId hi (lo ^^^ (1#8 <<< j))).toNat ≠ minFrame + (lenId hi lo).toNat)

/-- The RTN class of every CID2 byte, and where the raw byte is read (42_engine.md R602). -/
def Obligations.RtnClassTable : Prop :=
  (∀ r : Byte,
    (r.toNat ≤ 0x06 → (rtnClassOf r).toNat = r.toNat) ∧
    (0x80 ≤ r.toNat ∧ r.toNat ≤ 0xEF → rtnClassOf r = 7#4) ∧
    ((0x07 ≤ r.toNat ∧ r.toNat ≤ 0x7F) ∨ 0xF0 ≤ r.toNat → rtnClassOf r = 8#4)) ∧
  ∀ s : State, (regRead 0x03C s).extractLsb' 24 8 = rxbuf s 4

/-! ### Reset and the invariants -/

/-- The state after reset (70_reset_and_hazards.md R801): every register as the host reads it, and the hidden state. The buffer
bytes are the draws of Config.bufDraw, of which nothing is said. -/
def Obligations.ResetState : Prop :=
  let s := State.reset
  (∀ r ∈ [(0x000, 0x59440001#32), (0x004, 0#32), (0x008, 0#32), (0x00C, 0#32), (0x010, 0#32), (0x014, 0#32), (0x018, 0#32),
      (0x01C, Config.verReset.setWidth 32), (0x020, 0#32), (0x024, 0x00000064#32), (0x028, 0x00000003#32),
      (0x02C, 0x00002710#32), (0x030, 0x000003E8#32), (0x034, 0#32), (0x038, 0#32), (0x044, 0#32), (0x048, 0#32),
      (0x04C, 0#32), (0x050, 0#32), (0x054, 0#32), (0x058, 0#32), (0x05C, 0#32)],
    regRead r.1 s = r.2) ∧
  (regRead 0x040 s).extractLsb' 16 4 = lchk ((regRead 0x040 s).extractLsb' 0 12).toNat ∧ irq s = false ∧
  s.tx = { img := [], idx := 0 } ∧ s.rx = { idx := 0, need := 10 } ∧ s.fifo = [] ∧
  s.timers = { byte := 0#16, frame := 0#24, reconn := 0#16 } ∧ s.autoRtnCode = 0#8 ∧
  (∀ a, byteAt s a = Config.bufDraw s.epoch a)

/-- The reset step (70_reset_and_hazards.md R800): from any state, every piece of state takes its reset value, with no
completion and no request to the PHY; what went out stays out. Every buffer byte is drawn afresh. -/
def Obligations.ResetStep : Prop :=
  ∀ s : State, nextEvent s = .reset → ∃ t, step s = .next t ∧
    t = { State.resetWith s.params with
      epoch := t.epoch, inbox := t.inbox, draws := t.draws, phyOut := s.phyOut, busResp := t.busResp } ∧
    t.epoch ≠ s.epoch ∧ (∀ a, byteAt t a = Config.bufDraw t.epoch a) ∧ t.intStatus = 0#6 ∧
    t.result.code = 0x00#8

/-- The launch premises (70_reset_and_hazards.md R833): what `LaunchReset` says of a state, that `LaunchConnected` is reached
from it by the three lines, and the state it is. Then how a program runs and ends (R830): its lines in order, each its steps and
then internal steps until none is enabled; the end with a command still in flight; and a POLL (R330), which goes on when BUSY
reads 0. The last clause is the model's reading of R830, DEDUCED in log 15: a POLL that reads BUSY = 1 never ends when no internal
step is enabled and the program ends there or a host statement comes next, whatever lines follow that statement. Nothing is said
of a POLL with an environment line next. -/
def Obligations.LaunchStates : Prop :=
  (∀ (depth : Nat) (ver : Byte) (s : State), LaunchReset depth ver s →
    s.params = { verReset := ver, rxfifoDepth := depth } ∧ s.regs.cfgVer = ver ∧ s.status.busy = false ∧
    s.status.phase = .none ∧ s.status.link = .disconnected ∧ s.tx.img = [] ∧ s.result = ResultReg.zero ∧
    s.intStatus = 0#6 ∧ s.fifo = [] ∧ s.timers = { byte := 0#16, frame := 0#24, reconn := 0#16 } ∧
    s.counters = { skip := 0#16, discard := 0#16, attempt := 0#8, framesOk := 0#16 } ∧
    ∀ a, byteAt s a = Config.bufDraw s.epoch a) ∧
  (∀ (depth : Nat) (ver ver' : Byte) (s0 : State), LaunchReset depth ver' s0 →
    ∃ s, runProgram (connectLines ver) s0 = .ended s ∧ LaunchConnected depth ver s) ∧
  (∀ (depth : Nat) (ver : Byte) (s : State), LaunchConnected depth ver s →
    ∃ ver' s0, LaunchReset depth ver' s0 ∧ s = { s0 with
      regs := { s0.regs with cfgVer := ver }
      status := { s0.status with link := .connected, armed := true, op := 0x1#4 }
      intStatus := 0x05#6
      phyOut := s0.phyOut ++ [.openReq 0x00000000#32]
      busResp := .done } ∧
    s.status.busy = false ∧ s.fifo = [] ∧ s.result = ResultReg.zero) ∧
  (∀ s : State, runProgram [] s = .ended s) ∧
  (∀ (l : Line) (ls : List Line) (s t : State), l ≠ .poll → runLine l s = .next t →
    runProgram (l :: ls) s = runProgram ls t ∧ internalEnabled t = false ∧
    ∃ u es, performAll (lineEvents l) s = .next u ∧ performAll es u = .next t ∧ ∀ e ∈ es, e = .rxConsume ∨ e = .lbEmit) ∧
  (∀ (ls : List Line) (s t : State), ls ≠ [] → runProgram ls s = .ended t → internalEnabled t = false) ∧
  (∀ (depth : Nat) (ver : Byte) (s0 : State), LaunchReset depth ver s0 →
    ∃ s, runProgram [.cmd .connect] s0 = .ended s ∧ s.status.busy = true ∧ s.status.phase = .opening) ∧
  (∀ (ls : List Line) (s : State), internalEnabled s = false →
    (s.status.busy = false →
      runProgram (.poll :: ls) s = runProgram ls { s with busResp := .data (regRead 0x00C s) }) ∧
    (s.status.busy = true → ls = [] ∨ (∃ l ls', ls = l :: ls' ∧ isEnv l = false) →
      ∀ t, runProgram (.poll :: ls) s ≠ .ended t))

/-- The invariant of reachable states holds at reset, for every value of the two parameters. -/
def Obligations.InvariantAtReset : Prop := State.reset.Inv

/-- Every step from a state that meets the invariant gives a next state that meets it: no step faults, none is refused, and the
facts that `State.Inv` collects from 10_state.md R113, R114, R131, R150 to R154, 41_transport.md R505 and 60_exceptions.md
R701, R707 are kept. -/
def Obligations.StepKeepsInvariant : Prop :=
  ∀ s : State, s.Inv → ∃ t, step s = .next t ∧ t.Inv
end

