-- ==== Sys2Proof/Laws/State.lean ====
section
/-! SUPPORT. One lemma per field per named update of the state, true by rfl and tagged @[simp], so that no proof unfolds a
record update; then the same for the updates that choose. -/

namespace Sys2Proof.Machine

variable (s : State)

/-! ### setFlags -/

@[simp] theorem setFlags_params (m : BitVec 6) : (setFlags m s).params = s.params := rfl
@[simp] theorem setFlags_regs (m : BitVec 6) : (setFlags m s).regs = s.regs := rfl
@[simp] theorem setFlags_status (m : BitVec 6) : (setFlags m s).status = s.status := rfl
@[simp] theorem setFlags_result (m : BitVec 6) : (setFlags m s).result = s.result := rfl
@[simp] theorem setFlags_intStatus (m : BitVec 6) : (setFlags m s).intStatus = s.intStatus ||| m := rfl
@[simp] theorem setFlags_rxFlen (m : BitVec 6) : (setFlags m s).rxFlen = s.rxFlen := rfl
@[simp] theorem setFlags_counters (m : BitVec 6) : (setFlags m s).counters = s.counters := rfl
@[simp] theorem setFlags_mem (m : BitVec 6) : (setFlags m s).mem = s.mem := rfl
@[simp] theorem setFlags_epoch (m : BitVec 6) : (setFlags m s).epoch = s.epoch := rfl
@[simp] theorem setFlags_tx (m : BitVec 6) : (setFlags m s).tx = s.tx := rfl
@[simp] theorem setFlags_rx (m : BitVec 6) : (setFlags m s).rx = s.rx := rfl
@[simp] theorem setFlags_fifo (m : BitVec 6) : (setFlags m s).fifo = s.fifo := rfl
@[simp] theorem setFlags_timers (m : BitVec 6) : (setFlags m s).timers = s.timers := rfl
@[simp] theorem setFlags_autoRtnCode (m : BitVec 6) : (setFlags m s).autoRtnCode = s.autoRtnCode := rfl
@[simp] theorem setFlags_inbox (m : BitVec 6) : (setFlags m s).inbox = s.inbox := rfl
@[simp] theorem setFlags_draws (m : BitVec 6) : (setFlags m s).draws = s.draws := rfl
@[simp] theorem setFlags_phyOut (m : BitVec 6) : (setFlags m s).phyOut = s.phyOut := rfl
@[simp] theorem setFlags_busResp (m : BitVec 6) : (setFlags m s).busResp = s.busResp := rfl

/-! ### clearFlags -/

@[simp] theorem clearFlags_params (m : BitVec 6) : (clearFlags m s).params = s.params := rfl
@[simp] theorem clearFlags_regs (m : BitVec 6) : (clearFlags m s).regs = s.regs := rfl
@[simp] theorem clearFlags_status (m : BitVec 6) : (clearFlags m s).status = s.status := rfl
@[simp] theorem clearFlags_result (m : BitVec 6) : (clearFlags m s).result = s.result := rfl
@[simp] theorem clearFlags_intStatus (m : BitVec 6) : (clearFlags m s).intStatus = s.intStatus &&& ~~~m := rfl
@[simp] theorem clearFlags_rxFlen (m : BitVec 6) : (clearFlags m s).rxFlen = s.rxFlen := rfl
@[simp] theorem clearFlags_counters (m : BitVec 6) : (clearFlags m s).counters = s.counters := rfl
@[simp] theorem clearFlags_mem (m : BitVec 6) : (clearFlags m s).mem = s.mem := rfl
@[simp] theorem clearFlags_epoch (m : BitVec 6) : (clearFlags m s).epoch = s.epoch := rfl
@[simp] theorem clearFlags_tx (m : BitVec 6) : (clearFlags m s).tx = s.tx := rfl
@[simp] theorem clearFlags_rx (m : BitVec 6) : (clearFlags m s).rx = s.rx := rfl
@[simp] theorem clearFlags_fifo (m : BitVec 6) : (clearFlags m s).fifo = s.fifo := rfl
@[simp] theorem clearFlags_timers (m : BitVec 6) : (clearFlags m s).timers = s.timers := rfl
@[simp] theorem clearFlags_autoRtnCode (m : BitVec 6) : (clearFlags m s).autoRtnCode = s.autoRtnCode := rfl
@[simp] theorem clearFlags_inbox (m : BitVec 6) : (clearFlags m s).inbox = s.inbox := rfl
@[simp] theorem clearFlags_draws (m : BitVec 6) : (clearFlags m s).draws = s.draws := rfl
@[simp] theorem clearFlags_phyOut (m : BitVec 6) : (clearFlags m s).phyOut = s.phyOut := rfl
@[simp] theorem clearFlags_busResp (m : BitVec 6) : (clearFlags m s).busResp = s.busResp := rfl

/-! ### finish -/

@[simp] theorem finish_params (c : Byte) : (finish c s).params = s.params := rfl
@[simp] theorem finish_regs (c : Byte) : (finish c s).regs = s.regs := rfl
@[simp] theorem finish_status (c : Byte) : (finish c s).status = { s.status with busy := false, phase := .none, rxst := .idle } := rfl
@[simp] theorem finish_result (c : Byte) : (finish c s).result = { s.result with code := c } := rfl
@[simp] theorem finish_intStatus (c : Byte) : (finish c s).intStatus = s.intStatus ||| finishFlags c := rfl
@[simp] theorem finish_rxFlen (c : Byte) : (finish c s).rxFlen = s.rxFlen := rfl
@[simp] theorem finish_counters (c : Byte) : (finish c s).counters = s.counters := rfl
@[simp] theorem finish_mem (c : Byte) : (finish c s).mem = s.mem := rfl
@[simp] theorem finish_epoch (c : Byte) : (finish c s).epoch = s.epoch := rfl
@[simp] theorem finish_tx (c : Byte) : (finish c s).tx = s.tx := rfl
@[simp] theorem finish_rx (c : Byte) : (finish c s).rx = s.rx := rfl
@[simp] theorem finish_fifo (c : Byte) : (finish c s).fifo = s.fifo := rfl
@[simp] theorem finish_timers (c : Byte) : (finish c s).timers = s.timers := rfl
@[simp] theorem finish_autoRtnCode (c : Byte) : (finish c s).autoRtnCode = s.autoRtnCode := rfl
@[simp] theorem finish_inbox (c : Byte) : (finish c s).inbox = s.inbox := rfl
@[simp] theorem finish_draws (c : Byte) : (finish c s).draws = s.draws := rfl
@[simp] theorem finish_phyOut (c : Byte) : (finish c s).phyOut = s.phyOut := rfl
@[simp] theorem finish_busResp (c : Byte) : (finish c s).busResp = s.busResp := rfl

/-! ### acceptCommand -/

@[simp] theorem acceptCommand_params (op : BitVec 4) : (acceptCommand op s).params = s.params := rfl
@[simp] theorem acceptCommand_regs (op : BitVec 4) : (acceptCommand op s).regs = s.regs := rfl
@[simp] theorem acceptCommand_status (op : BitVec 4) : (acceptCommand op s).status = { s.status with op := op } := rfl
@[simp] theorem acceptCommand_result (op : BitVec 4) : (acceptCommand op s).result = ResultReg.zero := rfl
@[simp] theorem acceptCommand_intStatus (op : BitVec 4) : (acceptCommand op s).intStatus = s.intStatus := rfl
@[simp] theorem acceptCommand_rxFlen (op : BitVec 4) : (acceptCommand op s).rxFlen = s.rxFlen := rfl
@[simp] theorem acceptCommand_counters (op : BitVec 4) : (acceptCommand op s).counters = s.counters := rfl
@[simp] theorem acceptCommand_mem (op : BitVec 4) : (acceptCommand op s).mem = s.mem := rfl
@[simp] theorem acceptCommand_epoch (op : BitVec 4) : (acceptCommand op s).epoch = s.epoch := rfl
@[simp] theorem acceptCommand_tx (op : BitVec 4) : (acceptCommand op s).tx = s.tx := rfl
@[simp] theorem acceptCommand_rx (op : BitVec 4) : (acceptCommand op s).rx = s.rx := rfl
@[simp] theorem acceptCommand_fifo (op : BitVec 4) : (acceptCommand op s).fifo = s.fifo := rfl
@[simp] theorem acceptCommand_timers (op : BitVec 4) : (acceptCommand op s).timers = s.timers := rfl
@[simp] theorem acceptCommand_autoRtnCode (op : BitVec 4) : (acceptCommand op s).autoRtnCode = s.autoRtnCode := rfl
@[simp] theorem acceptCommand_inbox (op : BitVec 4) : (acceptCommand op s).inbox = s.inbox := rfl
@[simp] theorem acceptCommand_draws (op : BitVec 4) : (acceptCommand op s).draws = s.draws := rfl
@[simp] theorem acceptCommand_phyOut (op : BitVec 4) : (acceptCommand op s).phyOut = s.phyOut := rfl
@[simp] theorem acceptCommand_busResp (op : BitVec 4) : (acceptCommand op s).busResp = s.busResp := rfl

/-! ### rejectCommand -/

@[simp] theorem rejectCommand_params : (rejectCommand s).params = s.params := rfl
@[simp] theorem rejectCommand_regs : (rejectCommand s).regs = s.regs := rfl
@[simp] theorem rejectCommand_status : (rejectCommand s).status = s.status := rfl
@[simp] theorem rejectCommand_result : (rejectCommand s).result = s.result := rfl
@[simp] theorem rejectCommand_intStatus : (rejectCommand s).intStatus = s.intStatus ||| flagCmdRej := rfl
@[simp] theorem rejectCommand_rxFlen : (rejectCommand s).rxFlen = s.rxFlen := rfl
@[simp] theorem rejectCommand_counters : (rejectCommand s).counters = s.counters := rfl
@[simp] theorem rejectCommand_mem : (rejectCommand s).mem = s.mem := rfl
@[simp] theorem rejectCommand_epoch : (rejectCommand s).epoch = s.epoch := rfl
@[simp] theorem rejectCommand_tx : (rejectCommand s).tx = s.tx := rfl
@[simp] theorem rejectCommand_rx : (rejectCommand s).rx = s.rx := rfl
@[simp] theorem rejectCommand_fifo : (rejectCommand s).fifo = s.fifo := rfl
@[simp] theorem rejectCommand_timers : (rejectCommand s).timers = s.timers := rfl
@[simp] theorem rejectCommand_autoRtnCode : (rejectCommand s).autoRtnCode = s.autoRtnCode := rfl
@[simp] theorem rejectCommand_inbox : (rejectCommand s).inbox = s.inbox := rfl
@[simp] theorem rejectCommand_draws : (rejectCommand s).draws = s.draws := rfl
@[simp] theorem rejectCommand_phyOut : (rejectCommand s).phyOut = s.phyOut := rfl
@[simp] theorem rejectCommand_busResp : (rejectCommand s).busResp = s.busResp := rfl

/-! ### startOpen -/

@[simp] theorem startOpen_params : (startOpen s).params = s.params := rfl
@[simp] theorem startOpen_regs : (startOpen s).regs = s.regs := rfl
@[simp] theorem startOpen_status : (startOpen s).status = { s.status with busy := true, phase := .opening } := rfl
@[simp] theorem startOpen_result : (startOpen s).result = s.result := rfl
@[simp] theorem startOpen_intStatus : (startOpen s).intStatus = s.intStatus := rfl
@[simp] theorem startOpen_rxFlen : (startOpen s).rxFlen = s.rxFlen := rfl
@[simp] theorem startOpen_counters : (startOpen s).counters = s.counters := rfl
@[simp] theorem startOpen_mem : (startOpen s).mem = s.mem := rfl
@[simp] theorem startOpen_epoch : (startOpen s).epoch = s.epoch := rfl
@[simp] theorem startOpen_tx : (startOpen s).tx = s.tx := rfl
@[simp] theorem startOpen_rx : (startOpen s).rx = s.rx := rfl
@[simp] theorem startOpen_fifo : (startOpen s).fifo = s.fifo := rfl
@[simp] theorem startOpen_timers : (startOpen s).timers = s.timers := rfl
@[simp] theorem startOpen_autoRtnCode : (startOpen s).autoRtnCode = s.autoRtnCode := rfl
@[simp] theorem startOpen_inbox : (startOpen s).inbox = s.inbox := rfl
@[simp] theorem startOpen_draws : (startOpen s).draws = s.draws := rfl
@[simp] theorem startOpen_phyOut : (startOpen s).phyOut = s.phyOut := rfl
@[simp] theorem startOpen_busResp : (startOpen s).busResp = s.busResp := rfl

/-! ### setBusy -/

@[simp] theorem setBusy_params : (setBusy s).params = s.params := rfl
@[simp] theorem setBusy_regs : (setBusy s).regs = s.regs := rfl
@[simp] theorem setBusy_status : (setBusy s).status = { s.status with busy := true } := rfl
@[simp] theorem setBusy_result : (setBusy s).result = s.result := rfl
@[simp] theorem setBusy_intStatus : (setBusy s).intStatus = s.intStatus := rfl
@[simp] theorem setBusy_rxFlen : (setBusy s).rxFlen = s.rxFlen := rfl
@[simp] theorem setBusy_counters : (setBusy s).counters = s.counters := rfl
@[simp] theorem setBusy_mem : (setBusy s).mem = s.mem := rfl
@[simp] theorem setBusy_epoch : (setBusy s).epoch = s.epoch := rfl
@[simp] theorem setBusy_tx : (setBusy s).tx = s.tx := rfl
@[simp] theorem setBusy_rx : (setBusy s).rx = s.rx := rfl
@[simp] theorem setBusy_fifo : (setBusy s).fifo = s.fifo := rfl
@[simp] theorem setBusy_timers : (setBusy s).timers = s.timers := rfl
@[simp] theorem setBusy_autoRtnCode : (setBusy s).autoRtnCode = s.autoRtnCode := rfl
@[simp] theorem setBusy_inbox : (setBusy s).inbox = s.inbox := rfl
@[simp] theorem setBusy_draws : (setBusy s).draws = s.draws := rfl
@[simp] theorem setBusy_phyOut : (setBusy s).phyOut = s.phyOut := rfl
@[simp] theorem setBusy_busResp : (setBusy s).busResp = s.busResp := rfl

/-! ### startRx -/

@[simp] theorem startRx_params : (startRx s).params = s.params := rfl
@[simp] theorem startRx_regs : (startRx s).regs = s.regs := rfl
@[simp] theorem startRx_status : (startRx s).status = { s.status with phase := .rx, rxst := .hunt } := rfl
@[simp] theorem startRx_result : (startRx s).result = s.result := rfl
@[simp] theorem startRx_intStatus : (startRx s).intStatus = s.intStatus := rfl
@[simp] theorem startRx_rxFlen : (startRx s).rxFlen = 0#13 := rfl
@[simp] theorem startRx_counters : (startRx s).counters = { s.counters with attempt := 0#8 } := rfl
@[simp] theorem startRx_mem : (startRx s).mem = s.mem := rfl
@[simp] theorem startRx_epoch : (startRx s).epoch = s.epoch := rfl
@[simp] theorem startRx_tx : (startRx s).tx = s.tx := rfl
@[simp] theorem startRx_rx : (startRx s).rx = { s.rx with idx := 0 } := rfl
@[simp] theorem startRx_fifo : (startRx s).fifo = s.fifo := rfl
@[simp] theorem startRx_timers : (startRx s).timers = { s.timers with byte := 0#16, frame := 0#24 } := rfl
@[simp] theorem startRx_autoRtnCode : (startRx s).autoRtnCode = s.autoRtnCode := rfl
@[simp] theorem startRx_inbox : (startRx s).inbox = s.inbox := rfl
@[simp] theorem startRx_draws : (startRx s).draws = s.draws := rfl
@[simp] theorem startRx_phyOut : (startRx s).phyOut = s.phyOut := rfl
@[simp] theorem startRx_busResp : (startRx s).busResp = s.busResp := rfl

/-! ### txBegin -/

@[simp] theorem txBegin_params (adr c1 c2 : Byte) (n : Nat) : (txBegin adr c1 c2 n s).params = s.params := rfl
@[simp] theorem txBegin_regs (adr c1 c2 : Byte) (n : Nat) : (txBegin adr c1 c2 n s).regs = s.regs := rfl
@[simp] theorem txBegin_status (adr c1 c2 : Byte) (n : Nat) : (txBegin adr c1 c2 n s).status = { s.status with busy := true, phase := .tx } := rfl
@[simp] theorem txBegin_result (adr c1 c2 : Byte) (n : Nat) : (txBegin adr c1 c2 n s).result = s.result := rfl
@[simp] theorem txBegin_intStatus (adr c1 c2 : Byte) (n : Nat) : (txBegin adr c1 c2 n s).intStatus = s.intStatus := rfl
@[simp] theorem txBegin_rxFlen (adr c1 c2 : Byte) (n : Nat) : (txBegin adr c1 c2 n s).rxFlen = s.rxFlen := rfl
@[simp] theorem txBegin_counters (adr c1 c2 : Byte) (n : Nat) : (txBegin adr c1 c2 n s).counters = s.counters := rfl
@[simp] theorem txBegin_mem (adr c1 c2 : Byte) (n : Nat) : (txBegin adr c1 c2 n s).mem = s.mem := rfl
@[simp] theorem txBegin_epoch (adr c1 c2 : Byte) (n : Nat) : (txBegin adr c1 c2 n s).epoch = s.epoch := rfl
@[simp] theorem txBegin_tx (adr c1 c2 : Byte) (n : Nat) : (txBegin adr c1 c2 n s).tx = { img := encodeFrame s.regs.cfgVer adr c1 c2 (txPayload s n), idx := 0 } := rfl
@[simp] theorem txBegin_rx (adr c1 c2 : Byte) (n : Nat) : (txBegin adr c1 c2 n s).rx = s.rx := rfl
@[simp] theorem txBegin_fifo (adr c1 c2 : Byte) (n : Nat) : (txBegin adr c1 c2 n s).fifo = s.fifo := rfl
@[simp] theorem txBegin_timers (adr c1 c2 : Byte) (n : Nat) : (txBegin adr c1 c2 n s).timers = s.timers := rfl
@[simp] theorem txBegin_autoRtnCode (adr c1 c2 : Byte) (n : Nat) : (txBegin adr c1 c2 n s).autoRtnCode = s.autoRtnCode := rfl
@[simp] theorem txBegin_inbox (adr c1 c2 : Byte) (n : Nat) : (txBegin adr c1 c2 n s).inbox = s.inbox := rfl
@[simp] theorem txBegin_draws (adr c1 c2 : Byte) (n : Nat) : (txBegin adr c1 c2 n s).draws = s.draws := rfl
@[simp] theorem txBegin_phyOut (adr c1 c2 : Byte) (n : Nat) : (txBegin adr c1 c2 n s).phyOut = s.phyOut := rfl
@[simp] theorem txBegin_busResp (adr c1 c2 : Byte) (n : Nat) : (txBegin adr c1 c2 n s).busResp = s.busResp := rfl

/-! ### moveLink -/

@[simp] theorem moveLink_params (l : Link) : (moveLink l s).params = s.params := rfl
@[simp] theorem moveLink_regs (l : Link) : (moveLink l s).regs = s.regs := rfl
@[simp] theorem moveLink_status (l : Link) : (moveLink l s).status = { s.status with link := l } := rfl
@[simp] theorem moveLink_result (l : Link) : (moveLink l s).result = s.result := rfl
@[simp] theorem moveLink_intStatus (l : Link) : (moveLink l s).intStatus = s.intStatus ||| flagLinkChg := rfl
@[simp] theorem moveLink_rxFlen (l : Link) : (moveLink l s).rxFlen = s.rxFlen := rfl
@[simp] theorem moveLink_counters (l : Link) : (moveLink l s).counters = s.counters := rfl
@[simp] theorem moveLink_mem (l : Link) : (moveLink l s).mem = s.mem := rfl
@[simp] theorem moveLink_epoch (l : Link) : (moveLink l s).epoch = s.epoch := rfl
@[simp] theorem moveLink_tx (l : Link) : (moveLink l s).tx = s.tx := rfl
@[simp] theorem moveLink_rx (l : Link) : (moveLink l s).rx = s.rx := rfl
@[simp] theorem moveLink_fifo (l : Link) : (moveLink l s).fifo = s.fifo := rfl
@[simp] theorem moveLink_timers (l : Link) : (moveLink l s).timers = s.timers := rfl
@[simp] theorem moveLink_autoRtnCode (l : Link) : (moveLink l s).autoRtnCode = s.autoRtnCode := rfl
@[simp] theorem moveLink_inbox (l : Link) : (moveLink l s).inbox = s.inbox := rfl
@[simp] theorem moveLink_draws (l : Link) : (moveLink l s).draws = s.draws := rfl
@[simp] theorem moveLink_phyOut (l : Link) : (moveLink l s).phyOut = s.phyOut := rfl
@[simp] theorem moveLink_busResp (l : Link) : (moveLink l s).busResp = s.busResp := rfl

/-! ### setArmed -/

@[simp] theorem setArmed_params (b : Bool) : (setArmed b s).params = s.params := rfl
@[simp] theorem setArmed_regs (b : Bool) : (setArmed b s).regs = s.regs := rfl
@[simp] theorem setArmed_status (b : Bool) : (setArmed b s).status = { s.status with armed := b } := rfl
@[simp] theorem setArmed_result (b : Bool) : (setArmed b s).result = s.result := rfl
@[simp] theorem setArmed_intStatus (b : Bool) : (setArmed b s).intStatus = s.intStatus := rfl
@[simp] theorem setArmed_rxFlen (b : Bool) : (setArmed b s).rxFlen = s.rxFlen := rfl
@[simp] theorem setArmed_counters (b : Bool) : (setArmed b s).counters = s.counters := rfl
@[simp] theorem setArmed_mem (b : Bool) : (setArmed b s).mem = s.mem := rfl
@[simp] theorem setArmed_epoch (b : Bool) : (setArmed b s).epoch = s.epoch := rfl
@[simp] theorem setArmed_tx (b : Bool) : (setArmed b s).tx = s.tx := rfl
@[simp] theorem setArmed_rx (b : Bool) : (setArmed b s).rx = s.rx := rfl
@[simp] theorem setArmed_fifo (b : Bool) : (setArmed b s).fifo = s.fifo := rfl
@[simp] theorem setArmed_timers (b : Bool) : (setArmed b s).timers = s.timers := rfl
@[simp] theorem setArmed_autoRtnCode (b : Bool) : (setArmed b s).autoRtnCode = s.autoRtnCode := rfl
@[simp] theorem setArmed_inbox (b : Bool) : (setArmed b s).inbox = s.inbox := rfl
@[simp] theorem setArmed_draws (b : Bool) : (setArmed b s).draws = s.draws := rfl
@[simp] theorem setArmed_phyOut (b : Bool) : (setArmed b s).phyOut = s.phyOut := rfl
@[simp] theorem setArmed_busResp (b : Bool) : (setArmed b s).busResp = s.busResp := rfl

/-! ### clearFifo -/

@[simp] theorem clearFifo_params : (clearFifo s).params = s.params := rfl
@[simp] theorem clearFifo_regs : (clearFifo s).regs = s.regs := rfl
@[simp] theorem clearFifo_status : (clearFifo s).status = s.status := rfl
@[simp] theorem clearFifo_result : (clearFifo s).result = s.result := rfl
@[simp] theorem clearFifo_intStatus : (clearFifo s).intStatus = s.intStatus := rfl
@[simp] theorem clearFifo_rxFlen : (clearFifo s).rxFlen = s.rxFlen := rfl
@[simp] theorem clearFifo_counters : (clearFifo s).counters = s.counters := rfl
@[simp] theorem clearFifo_mem : (clearFifo s).mem = s.mem := rfl
@[simp] theorem clearFifo_epoch : (clearFifo s).epoch = s.epoch := rfl
@[simp] theorem clearFifo_tx : (clearFifo s).tx = s.tx := rfl
@[simp] theorem clearFifo_rx : (clearFifo s).rx = s.rx := rfl
@[simp] theorem clearFifo_fifo : (clearFifo s).fifo = [] := rfl
@[simp] theorem clearFifo_timers : (clearFifo s).timers = s.timers := rfl
@[simp] theorem clearFifo_autoRtnCode : (clearFifo s).autoRtnCode = s.autoRtnCode := rfl
@[simp] theorem clearFifo_inbox : (clearFifo s).inbox = s.inbox := rfl
@[simp] theorem clearFifo_draws : (clearFifo s).draws = s.draws := rfl
@[simp] theorem clearFifo_phyOut : (clearFifo s).phyOut = s.phyOut := rfl
@[simp] theorem clearFifo_busResp : (clearFifo s).busResp = s.busResp := rfl

/-! ### clearReconn -/

@[simp] theorem clearReconn_params : (clearReconn s).params = s.params := rfl
@[simp] theorem clearReconn_regs : (clearReconn s).regs = s.regs := rfl
@[simp] theorem clearReconn_status : (clearReconn s).status = s.status := rfl
@[simp] theorem clearReconn_result : (clearReconn s).result = s.result := rfl
@[simp] theorem clearReconn_intStatus : (clearReconn s).intStatus = s.intStatus := rfl
@[simp] theorem clearReconn_rxFlen : (clearReconn s).rxFlen = s.rxFlen := rfl
@[simp] theorem clearReconn_counters : (clearReconn s).counters = s.counters := rfl
@[simp] theorem clearReconn_mem : (clearReconn s).mem = s.mem := rfl
@[simp] theorem clearReconn_epoch : (clearReconn s).epoch = s.epoch := rfl
@[simp] theorem clearReconn_tx : (clearReconn s).tx = s.tx := rfl
@[simp] theorem clearReconn_rx : (clearReconn s).rx = s.rx := rfl
@[simp] theorem clearReconn_fifo : (clearReconn s).fifo = s.fifo := rfl
@[simp] theorem clearReconn_timers : (clearReconn s).timers = { s.timers with reconn := 0#16 } := rfl
@[simp] theorem clearReconn_autoRtnCode : (clearReconn s).autoRtnCode = s.autoRtnCode := rfl
@[simp] theorem clearReconn_inbox : (clearReconn s).inbox = s.inbox := rfl
@[simp] theorem clearReconn_draws : (clearReconn s).draws = s.draws := rfl
@[simp] theorem clearReconn_phyOut : (clearReconn s).phyOut = s.phyOut := rfl
@[simp] theorem clearReconn_busResp : (clearReconn s).busResp = s.busResp := rfl

/-! ### putOut -/

@[simp] theorem putOut_params (o : PhyOut) : (putOut o s).params = s.params := rfl
@[simp] theorem putOut_regs (o : PhyOut) : (putOut o s).regs = s.regs := rfl
@[simp] theorem putOut_status (o : PhyOut) : (putOut o s).status = s.status := rfl
@[simp] theorem putOut_result (o : PhyOut) : (putOut o s).result = s.result := rfl
@[simp] theorem putOut_intStatus (o : PhyOut) : (putOut o s).intStatus = s.intStatus := rfl
@[simp] theorem putOut_rxFlen (o : PhyOut) : (putOut o s).rxFlen = s.rxFlen := rfl
@[simp] theorem putOut_counters (o : PhyOut) : (putOut o s).counters = s.counters := rfl
@[simp] theorem putOut_mem (o : PhyOut) : (putOut o s).mem = s.mem := rfl
@[simp] theorem putOut_epoch (o : PhyOut) : (putOut o s).epoch = s.epoch := rfl
@[simp] theorem putOut_tx (o : PhyOut) : (putOut o s).tx = s.tx := rfl
@[simp] theorem putOut_rx (o : PhyOut) : (putOut o s).rx = s.rx := rfl
@[simp] theorem putOut_fifo (o : PhyOut) : (putOut o s).fifo = s.fifo := rfl
@[simp] theorem putOut_timers (o : PhyOut) : (putOut o s).timers = s.timers := rfl
@[simp] theorem putOut_autoRtnCode (o : PhyOut) : (putOut o s).autoRtnCode = s.autoRtnCode := rfl
@[simp] theorem putOut_inbox (o : PhyOut) : (putOut o s).inbox = s.inbox := rfl
@[simp] theorem putOut_draws (o : PhyOut) : (putOut o s).draws = s.draws := rfl
@[simp] theorem putOut_phyOut (o : PhyOut) : (putOut o s).phyOut = s.phyOut ++ [o] := rfl
@[simp] theorem putOut_busResp (o : PhyOut) : (putOut o s).busResp = s.busResp := rfl

/-! ### answer -/

@[simp] theorem answer_params (r : BusResp) : (answer r s).params = s.params := rfl
@[simp] theorem answer_regs (r : BusResp) : (answer r s).regs = s.regs := rfl
@[simp] theorem answer_status (r : BusResp) : (answer r s).status = s.status := rfl
@[simp] theorem answer_result (r : BusResp) : (answer r s).result = s.result := rfl
@[simp] theorem answer_intStatus (r : BusResp) : (answer r s).intStatus = s.intStatus := rfl
@[simp] theorem answer_rxFlen (r : BusResp) : (answer r s).rxFlen = s.rxFlen := rfl
@[simp] theorem answer_counters (r : BusResp) : (answer r s).counters = s.counters := rfl
@[simp] theorem answer_mem (r : BusResp) : (answer r s).mem = s.mem := rfl
@[simp] theorem answer_epoch (r : BusResp) : (answer r s).epoch = s.epoch := rfl
@[simp] theorem answer_tx (r : BusResp) : (answer r s).tx = s.tx := rfl
@[simp] theorem answer_rx (r : BusResp) : (answer r s).rx = s.rx := rfl
@[simp] theorem answer_fifo (r : BusResp) : (answer r s).fifo = s.fifo := rfl
@[simp] theorem answer_timers (r : BusResp) : (answer r s).timers = s.timers := rfl
@[simp] theorem answer_autoRtnCode (r : BusResp) : (answer r s).autoRtnCode = s.autoRtnCode := rfl
@[simp] theorem answer_inbox (r : BusResp) : (answer r s).inbox = s.inbox := rfl
@[simp] theorem answer_draws (r : BusResp) : (answer r s).draws = s.draws := rfl
@[simp] theorem answer_phyOut (r : BusResp) : (answer r s).phyOut = s.phyOut := rfl
@[simp] theorem answer_busResp (r : BusResp) : (answer r s).busResp = r := rfl

/-! ### countSkip -/

@[simp] theorem countSkip_params : (countSkip s).params = s.params := rfl
@[simp] theorem countSkip_regs : (countSkip s).regs = s.regs := rfl
@[simp] theorem countSkip_status : (countSkip s).status = s.status := rfl
@[simp] theorem countSkip_result : (countSkip s).result = s.result := rfl
@[simp] theorem countSkip_intStatus : (countSkip s).intStatus = s.intStatus := rfl
@[simp] theorem countSkip_rxFlen : (countSkip s).rxFlen = s.rxFlen := rfl
@[simp] theorem countSkip_counters : (countSkip s).counters = { s.counters with skip := s.counters.skip + 1#16 } := rfl
@[simp] theorem countSkip_mem : (countSkip s).mem = s.mem := rfl
@[simp] theorem countSkip_epoch : (countSkip s).epoch = s.epoch := rfl
@[simp] theorem countSkip_tx : (countSkip s).tx = s.tx := rfl
@[simp] theorem countSkip_rx : (countSkip s).rx = s.rx := rfl
@[simp] theorem countSkip_fifo : (countSkip s).fifo = s.fifo := rfl
@[simp] theorem countSkip_timers : (countSkip s).timers = s.timers := rfl
@[simp] theorem countSkip_autoRtnCode : (countSkip s).autoRtnCode = s.autoRtnCode := rfl
@[simp] theorem countSkip_inbox : (countSkip s).inbox = s.inbox := rfl
@[simp] theorem countSkip_draws : (countSkip s).draws = s.draws := rfl
@[simp] theorem countSkip_phyOut : (countSkip s).phyOut = s.phyOut := rfl
@[simp] theorem countSkip_busResp : (countSkip s).busResp = s.busResp := rfl

/-! ### countDiscard -/

@[simp] theorem countDiscard_params : (countDiscard s).params = s.params := rfl
@[simp] theorem countDiscard_regs : (countDiscard s).regs = s.regs := rfl
@[simp] theorem countDiscard_status : (countDiscard s).status = s.status := rfl
@[simp] theorem countDiscard_result : (countDiscard s).result = s.result := rfl
@[simp] theorem countDiscard_intStatus : (countDiscard s).intStatus = s.intStatus := rfl
@[simp] theorem countDiscard_rxFlen : (countDiscard s).rxFlen = s.rxFlen := rfl
@[simp] theorem countDiscard_counters : (countDiscard s).counters = { s.counters with discard := s.counters.discard + 1#16 } := rfl
@[simp] theorem countDiscard_mem : (countDiscard s).mem = s.mem := rfl
@[simp] theorem countDiscard_epoch : (countDiscard s).epoch = s.epoch := rfl
@[simp] theorem countDiscard_tx : (countDiscard s).tx = s.tx := rfl
@[simp] theorem countDiscard_rx : (countDiscard s).rx = s.rx := rfl
@[simp] theorem countDiscard_fifo : (countDiscard s).fifo = s.fifo := rfl
@[simp] theorem countDiscard_timers : (countDiscard s).timers = s.timers := rfl
@[simp] theorem countDiscard_autoRtnCode : (countDiscard s).autoRtnCode = s.autoRtnCode := rfl
@[simp] theorem countDiscard_inbox : (countDiscard s).inbox = s.inbox := rfl
@[simp] theorem countDiscard_draws : (countDiscard s).draws = s.draws := rfl
@[simp] theorem countDiscard_phyOut : (countDiscard s).phyOut = s.phyOut := rfl
@[simp] theorem countDiscard_busResp : (countDiscard s).busResp = s.busResp := rfl

/-! ### countAttempt -/

@[simp] theorem countAttempt_params : (countAttempt s).params = s.params := rfl
@[simp] theorem countAttempt_regs : (countAttempt s).regs = s.regs := rfl
@[simp] theorem countAttempt_status : (countAttempt s).status = s.status := rfl
@[simp] theorem countAttempt_result : (countAttempt s).result = s.result := rfl
@[simp] theorem countAttempt_intStatus : (countAttempt s).intStatus = s.intStatus := rfl
@[simp] theorem countAttempt_rxFlen : (countAttempt s).rxFlen = s.rxFlen := rfl
@[simp] theorem countAttempt_counters : (countAttempt s).counters = { s.counters with attempt := s.counters.attempt + 1#8 } := rfl
@[simp] theorem countAttempt_mem : (countAttempt s).mem = s.mem := rfl
@[simp] theorem countAttempt_epoch : (countAttempt s).epoch = s.epoch := rfl
@[simp] theorem countAttempt_tx : (countAttempt s).tx = s.tx := rfl
@[simp] theorem countAttempt_rx : (countAttempt s).rx = s.rx := rfl
@[simp] theorem countAttempt_fifo : (countAttempt s).fifo = s.fifo := rfl
@[simp] theorem countAttempt_timers : (countAttempt s).timers = s.timers := rfl
@[simp] theorem countAttempt_autoRtnCode : (countAttempt s).autoRtnCode = s.autoRtnCode := rfl
@[simp] theorem countAttempt_inbox : (countAttempt s).inbox = s.inbox := rfl
@[simp] theorem countAttempt_draws : (countAttempt s).draws = s.draws := rfl
@[simp] theorem countAttempt_phyOut : (countAttempt s).phyOut = s.phyOut := rfl
@[simp] theorem countAttempt_busResp : (countAttempt s).busResp = s.busResp := rfl

/-! ### countFrameOk -/

@[simp] theorem countFrameOk_params : (countFrameOk s).params = s.params := rfl
@[simp] theorem countFrameOk_regs : (countFrameOk s).regs = s.regs := rfl
@[simp] theorem countFrameOk_status : (countFrameOk s).status = s.status := rfl
@[simp] theorem countFrameOk_result : (countFrameOk s).result = s.result := rfl
@[simp] theorem countFrameOk_intStatus : (countFrameOk s).intStatus = s.intStatus := rfl
@[simp] theorem countFrameOk_rxFlen : (countFrameOk s).rxFlen = s.rxFlen := rfl
@[simp] theorem countFrameOk_counters : (countFrameOk s).counters = { s.counters with framesOk := s.counters.framesOk + 1#16 } := rfl
@[simp] theorem countFrameOk_mem : (countFrameOk s).mem = s.mem := rfl
@[simp] theorem countFrameOk_epoch : (countFrameOk s).epoch = s.epoch := rfl
@[simp] theorem countFrameOk_tx : (countFrameOk s).tx = s.tx := rfl
@[simp] theorem countFrameOk_rx : (countFrameOk s).rx = s.rx := rfl
@[simp] theorem countFrameOk_fifo : (countFrameOk s).fifo = s.fifo := rfl
@[simp] theorem countFrameOk_timers : (countFrameOk s).timers = s.timers := rfl
@[simp] theorem countFrameOk_autoRtnCode : (countFrameOk s).autoRtnCode = s.autoRtnCode := rfl
@[simp] theorem countFrameOk_inbox : (countFrameOk s).inbox = s.inbox := rfl
@[simp] theorem countFrameOk_draws : (countFrameOk s).draws = s.draws := rfl
@[simp] theorem countFrameOk_phyOut : (countFrameOk s).phyOut = s.phyOut := rfl
@[simp] theorem countFrameOk_busResp : (countFrameOk s).busResp = s.busResp := rfl

/-! ### resumeHunt -/

@[simp] theorem resumeHunt_params : (resumeHunt s).params = s.params := rfl
@[simp] theorem resumeHunt_regs : (resumeHunt s).regs = s.regs := rfl
@[simp] theorem resumeHunt_status : (resumeHunt s).status = { s.status with rxst := .hunt } := rfl
@[simp] theorem resumeHunt_result : (resumeHunt s).result = s.result := rfl
@[simp] theorem resumeHunt_intStatus : (resumeHunt s).intStatus = s.intStatus := rfl
@[simp] theorem resumeHunt_rxFlen : (resumeHunt s).rxFlen = s.rxFlen := rfl
@[simp] theorem resumeHunt_counters : (resumeHunt s).counters = s.counters := rfl
@[simp] theorem resumeHunt_mem : (resumeHunt s).mem = s.mem := rfl
@[simp] theorem resumeHunt_epoch : (resumeHunt s).epoch = s.epoch := rfl
@[simp] theorem resumeHunt_tx : (resumeHunt s).tx = s.tx := rfl
@[simp] theorem resumeHunt_rx : (resumeHunt s).rx = { s.rx with idx := 0 } := rfl
@[simp] theorem resumeHunt_fifo : (resumeHunt s).fifo = s.fifo := rfl
@[simp] theorem resumeHunt_timers : (resumeHunt s).timers = s.timers := rfl
@[simp] theorem resumeHunt_autoRtnCode : (resumeHunt s).autoRtnCode = s.autoRtnCode := rfl
@[simp] theorem resumeHunt_inbox : (resumeHunt s).inbox = s.inbox := rfl
@[simp] theorem resumeHunt_draws : (resumeHunt s).draws = s.draws := rfl
@[simp] theorem resumeHunt_phyOut : (resumeHunt s).phyOut = s.phyOut := rfl
@[simp] theorem resumeHunt_busResp : (resumeHunt s).busResp = s.busResp := rfl

/-! ### putByte -/

@[simp] theorem putByte_params (a : Nat) (b : Byte) : (putByte a b s).params = s.params := rfl
@[simp] theorem putByte_regs (a : Nat) (b : Byte) : (putByte a b s).regs = s.regs := rfl
@[simp] theorem putByte_status (a : Nat) (b : Byte) : (putByte a b s).status = s.status := rfl
@[simp] theorem putByte_result (a : Nat) (b : Byte) : (putByte a b s).result = s.result := rfl
@[simp] theorem putByte_intStatus (a : Nat) (b : Byte) : (putByte a b s).intStatus = s.intStatus := rfl
@[simp] theorem putByte_rxFlen (a : Nat) (b : Byte) : (putByte a b s).rxFlen = s.rxFlen := rfl
@[simp] theorem putByte_counters (a : Nat) (b : Byte) : (putByte a b s).counters = s.counters := rfl
@[simp] theorem putByte_mem (a : Nat) (b : Byte) : (putByte a b s).mem = memSet s.mem a b := rfl
@[simp] theorem putByte_epoch (a : Nat) (b : Byte) : (putByte a b s).epoch = s.epoch := rfl
@[simp] theorem putByte_tx (a : Nat) (b : Byte) : (putByte a b s).tx = s.tx := rfl
@[simp] theorem putByte_rx (a : Nat) (b : Byte) : (putByte a b s).rx = s.rx := rfl
@[simp] theorem putByte_fifo (a : Nat) (b : Byte) : (putByte a b s).fifo = s.fifo := rfl
@[simp] theorem putByte_timers (a : Nat) (b : Byte) : (putByte a b s).timers = s.timers := rfl
@[simp] theorem putByte_autoRtnCode (a : Nat) (b : Byte) : (putByte a b s).autoRtnCode = s.autoRtnCode := rfl
@[simp] theorem putByte_inbox (a : Nat) (b : Byte) : (putByte a b s).inbox = s.inbox := rfl
@[simp] theorem putByte_draws (a : Nat) (b : Byte) : (putByte a b s).draws = s.draws := rfl
@[simp] theorem putByte_phyOut (a : Nat) (b : Byte) : (putByte a b s).phyOut = s.phyOut := rfl
@[simp] theorem putByte_busResp (a : Nat) (b : Byte) : (putByte a b s).busResp = s.busResp := rfl

/-! ### countSent -/

@[simp] theorem countSent_params : (countSent s).params = s.params := rfl
@[simp] theorem countSent_regs : (countSent s).regs = s.regs := rfl
@[simp] theorem countSent_status : (countSent s).status = s.status := rfl
@[simp] theorem countSent_result : (countSent s).result = s.result := rfl
@[simp] theorem countSent_intStatus : (countSent s).intStatus = s.intStatus := rfl
@[simp] theorem countSent_rxFlen : (countSent s).rxFlen = s.rxFlen := rfl
@[simp] theorem countSent_counters : (countSent s).counters = s.counters := rfl
@[simp] theorem countSent_mem : (countSent s).mem = s.mem := rfl
@[simp] theorem countSent_epoch : (countSent s).epoch = s.epoch := rfl
@[simp] theorem countSent_tx : (countSent s).tx = { s.tx with idx := s.tx.idx + 1 } := rfl
@[simp] theorem countSent_rx : (countSent s).rx = s.rx := rfl
@[simp] theorem countSent_fifo : (countSent s).fifo = s.fifo := rfl
@[simp] theorem countSent_timers : (countSent s).timers = s.timers := rfl
@[simp] theorem countSent_autoRtnCode : (countSent s).autoRtnCode = s.autoRtnCode := rfl
@[simp] theorem countSent_inbox : (countSent s).inbox = s.inbox := rfl
@[simp] theorem countSent_draws : (countSent s).draws = s.draws := rfl
@[simp] theorem countSent_phyOut : (countSent s).phyOut = s.phyOut := rfl
@[simp] theorem countSent_busResp : (countSent s).busResp = s.busResp := rfl

/-! ### popFifo -/

@[simp] theorem popFifo_params (r : List Byte) : (popFifo r s).params = s.params := rfl
@[simp] theorem popFifo_regs (r : List Byte) : (popFifo r s).regs = s.regs := rfl
@[simp] theorem popFifo_status (r : List Byte) : (popFifo r s).status = s.status := rfl
@[simp] theorem popFifo_result (r : List Byte) : (popFifo r s).result = s.result := rfl
@[simp] theorem popFifo_intStatus (r : List Byte) : (popFifo r s).intStatus = s.intStatus := rfl
@[simp] theorem popFifo_rxFlen (r : List Byte) : (popFifo r s).rxFlen = s.rxFlen := rfl
@[simp] theorem popFifo_counters (r : List Byte) : (popFifo r s).counters = s.counters := rfl
@[simp] theorem popFifo_mem (r : List Byte) : (popFifo r s).mem = s.mem := rfl
@[simp] theorem popFifo_epoch (r : List Byte) : (popFifo r s).epoch = s.epoch := rfl
@[simp] theorem popFifo_tx (r : List Byte) : (popFifo r s).tx = s.tx := rfl
@[simp] theorem popFifo_rx (r : List Byte) : (popFifo r s).rx = s.rx := rfl
@[simp] theorem popFifo_fifo (r : List Byte) : (popFifo r s).fifo = r := rfl
@[simp] theorem popFifo_timers (r : List Byte) : (popFifo r s).timers = { s.timers with byte := 0#16 } := rfl
@[simp] theorem popFifo_autoRtnCode (r : List Byte) : (popFifo r s).autoRtnCode = s.autoRtnCode := rfl
@[simp] theorem popFifo_inbox (r : List Byte) : (popFifo r s).inbox = s.inbox := rfl
@[simp] theorem popFifo_draws (r : List Byte) : (popFifo r s).draws = s.draws := rfl
@[simp] theorem popFifo_phyOut (r : List Byte) : (popFifo r s).phyOut = s.phyOut := rfl
@[simp] theorem popFifo_busResp (r : List Byte) : (popFifo r s).busResp = s.busResp := rfl

/-! ### pushFifo: what it leaves alone -/

@[simp] theorem pushFifo_params (b : Byte) : (pushFifo b s).params = s.params := by
  unfold pushFifo; split <;> rfl
@[simp] theorem pushFifo_regs (b : Byte) : (pushFifo b s).regs = s.regs := by
  unfold pushFifo; split <;> rfl
@[simp] theorem pushFifo_status (b : Byte) : (pushFifo b s).status = s.status := by
  unfold pushFifo; split <;> rfl
@[simp] theorem pushFifo_result (b : Byte) : (pushFifo b s).result = s.result := by
  unfold pushFifo; split <;> rfl
@[simp] theorem pushFifo_rxFlen (b : Byte) : (pushFifo b s).rxFlen = s.rxFlen := by
  unfold pushFifo; split <;> rfl
@[simp] theorem pushFifo_counters (b : Byte) : (pushFifo b s).counters = s.counters := by
  unfold pushFifo; split <;> rfl
@[simp] theorem pushFifo_mem (b : Byte) : (pushFifo b s).mem = s.mem := by
  unfold pushFifo; split <;> rfl
@[simp] theorem pushFifo_epoch (b : Byte) : (pushFifo b s).epoch = s.epoch := by
  unfold pushFifo; split <;> rfl
@[simp] theorem pushFifo_tx (b : Byte) : (pushFifo b s).tx = s.tx := by
  unfold pushFifo; split <;> rfl
@[simp] theorem pushFifo_rx (b : Byte) : (pushFifo b s).rx = s.rx := by
  unfold pushFifo; split <;> rfl
@[simp] theorem pushFifo_timers (b : Byte) : (pushFifo b s).timers = s.timers := by
  unfold pushFifo; split <;> rfl
@[simp] theorem pushFifo_autoRtnCode (b : Byte) : (pushFifo b s).autoRtnCode = s.autoRtnCode := by
  unfold pushFifo; split <;> rfl
@[simp] theorem pushFifo_inbox (b : Byte) : (pushFifo b s).inbox = s.inbox := by
  unfold pushFifo; split <;> rfl
@[simp] theorem pushFifo_draws (b : Byte) : (pushFifo b s).draws = s.draws := by
  unfold pushFifo; split <;> rfl
@[simp] theorem pushFifo_phyOut (b : Byte) : (pushFifo b s).phyOut = s.phyOut := by
  unfold pushFifo; split <;> rfl
@[simp] theorem pushFifo_busResp (b : Byte) : (pushFifo b s).busResp = s.busResp := by
  unfold pushFifo; split <;> rfl

/-! ### takeEvent: what it leaves alone -/

@[simp] theorem takeEvent_params : (takeEvent s).params = s.params := by
  unfold takeEvent; split <;> rfl
@[simp] theorem takeEvent_regs : (takeEvent s).regs = s.regs := by
  unfold takeEvent; split <;> rfl
@[simp] theorem takeEvent_status : (takeEvent s).status = s.status := by
  unfold takeEvent; split <;> rfl
@[simp] theorem takeEvent_result : (takeEvent s).result = s.result := by
  unfold takeEvent; split <;> rfl
@[simp] theorem takeEvent_intStatus : (takeEvent s).intStatus = s.intStatus := by
  unfold takeEvent; split <;> rfl
@[simp] theorem takeEvent_rxFlen : (takeEvent s).rxFlen = s.rxFlen := by
  unfold takeEvent; split <;> rfl
@[simp] theorem takeEvent_counters : (takeEvent s).counters = s.counters := by
  unfold takeEvent; split <;> rfl
@[simp] theorem takeEvent_mem : (takeEvent s).mem = s.mem := by
  unfold takeEvent; split <;> rfl
@[simp] theorem takeEvent_epoch : (takeEvent s).epoch = s.epoch := by
  unfold takeEvent; split <;> rfl
@[simp] theorem takeEvent_tx : (takeEvent s).tx = s.tx := by
  unfold takeEvent; split <;> rfl
@[simp] theorem takeEvent_rx : (takeEvent s).rx = s.rx := by
  unfold takeEvent; split <;> rfl
@[simp] theorem takeEvent_fifo : (takeEvent s).fifo = s.fifo := by
  unfold takeEvent; split <;> rfl
@[simp] theorem takeEvent_timers : (takeEvent s).timers = s.timers := by
  unfold takeEvent; split <;> rfl
@[simp] theorem takeEvent_autoRtnCode : (takeEvent s).autoRtnCode = s.autoRtnCode := by
  unfold takeEvent; split <;> rfl
@[simp] theorem takeEvent_phyOut : (takeEvent s).phyOut = s.phyOut := by
  unfold takeEvent; split <;> rfl
@[simp] theorem takeEvent_busResp : (takeEvent s).busResp = s.busResp := by
  unfold takeEvent; split <;> rfl

/-! ### closeLine: what it leaves alone -/

@[simp] theorem closeLine_params : (closeLine s).params = s.params := by
  unfold closeLine; split <;> rfl
@[simp] theorem closeLine_regs : (closeLine s).regs = s.regs := by
  unfold closeLine; split <;> rfl
@[simp] theorem closeLine_result : (closeLine s).result = s.result := by
  unfold closeLine; split <;> rfl
@[simp] theorem closeLine_rxFlen : (closeLine s).rxFlen = s.rxFlen := by
  unfold closeLine; split <;> rfl
@[simp] theorem closeLine_counters : (closeLine s).counters = s.counters := by
  unfold closeLine; split <;> rfl
@[simp] theorem closeLine_mem : (closeLine s).mem = s.mem := by
  unfold closeLine; split <;> rfl
@[simp] theorem closeLine_epoch : (closeLine s).epoch = s.epoch := by
  unfold closeLine; split <;> rfl
@[simp] theorem closeLine_tx : (closeLine s).tx = s.tx := by
  unfold closeLine; split <;> rfl
@[simp] theorem closeLine_rx : (closeLine s).rx = s.rx := by
  unfold closeLine; split <;> rfl
@[simp] theorem closeLine_fifo : (closeLine s).fifo = s.fifo := by
  unfold closeLine; split <;> rfl
@[simp] theorem closeLine_timers : (closeLine s).timers = s.timers := by
  unfold closeLine; split <;> rfl
@[simp] theorem closeLine_autoRtnCode : (closeLine s).autoRtnCode = s.autoRtnCode := by
  unfold closeLine; split <;> rfl
@[simp] theorem closeLine_inbox : (closeLine s).inbox = s.inbox := by
  unfold closeLine; split <;> rfl
@[simp] theorem closeLine_draws : (closeLine s).draws = s.draws := by
  unfold closeLine; split <;> rfl
@[simp] theorem closeLine_busResp : (closeLine s).busResp = s.busResp := by
  unfold closeLine; split <;> rfl

/-! ### putBytes: only buffer memory changes -/

@[simp] theorem putBytes_params (n a : Nat) (v : Word) : (putBytes n a v s).params = s.params := by
  induction n generalizing a v s with
  | zero => rfl
  | succ n ih => simp [putBytes, ih]
@[simp] theorem putBytes_regs (n a : Nat) (v : Word) : (putBytes n a v s).regs = s.regs := by
  induction n generalizing a v s with
  | zero => rfl
  | succ n ih => simp [putBytes, ih]
@[simp] theorem putBytes_status (n a : Nat) (v : Word) : (putBytes n a v s).status = s.status := by
  induction n generalizing a v s with
  | zero => rfl
  | succ n ih => simp [putBytes, ih]
@[simp] theorem putBytes_result (n a : Nat) (v : Word) : (putBytes n a v s).result = s.result := by
  induction n generalizing a v s with
  | zero => rfl
  | succ n ih => simp [putBytes, ih]
@[simp] theorem putBytes_intStatus (n a : Nat) (v : Word) : (putBytes n a v s).intStatus = s.intStatus := by
  induction n generalizing a v s with
  | zero => rfl
  | succ n ih => simp [putBytes, ih]
@[simp] theorem putBytes_rxFlen (n a : Nat) (v : Word) : (putBytes n a v s).rxFlen = s.rxFlen := by
  induction n generalizing a v s with
  | zero => rfl
  | succ n ih => simp [putBytes, ih]
@[simp] theorem putBytes_counters (n a : Nat) (v : Word) : (putBytes n a v s).counters = s.counters := by
  induction n generalizing a v s with
  | zero => rfl
  | succ n ih => simp [putBytes, ih]
@[simp] theorem putBytes_epoch (n a : Nat) (v : Word) : (putBytes n a v s).epoch = s.epoch := by
  induction n generalizing a v s with
  | zero => rfl
  | succ n ih => simp [putBytes, ih]
@[simp] theorem putBytes_tx (n a : Nat) (v : Word) : (putBytes n a v s).tx = s.tx := by
  induction n generalizing a v s with
  | zero => rfl
  | succ n ih => simp [putBytes, ih]
@[simp] theorem putBytes_rx (n a : Nat) (v : Word) : (putBytes n a v s).rx = s.rx := by
  induction n generalizing a v s with
  | zero => rfl
  | succ n ih => simp [putBytes, ih]
@[simp] theorem putBytes_fifo (n a : Nat) (v : Word) : (putBytes n a v s).fifo = s.fifo := by
  induction n generalizing a v s with
  | zero => rfl
  | succ n ih => simp [putBytes, ih]
@[simp] theorem putBytes_timers (n a : Nat) (v : Word) : (putBytes n a v s).timers = s.timers := by
  induction n generalizing a v s with
  | zero => rfl
  | succ n ih => simp [putBytes, ih]
@[simp] theorem putBytes_autoRtnCode (n a : Nat) (v : Word) : (putBytes n a v s).autoRtnCode = s.autoRtnCode := by
  induction n generalizing a v s with
  | zero => rfl
  | succ n ih => simp [putBytes, ih]
@[simp] theorem putBytes_inbox (n a : Nat) (v : Word) : (putBytes n a v s).inbox = s.inbox := by
  induction n generalizing a v s with
  | zero => rfl
  | succ n ih => simp [putBytes, ih]
@[simp] theorem putBytes_draws (n a : Nat) (v : Word) : (putBytes n a v s).draws = s.draws := by
  induction n generalizing a v s with
  | zero => rfl
  | succ n ih => simp [putBytes, ih]
@[simp] theorem putBytes_phyOut (n a : Nat) (v : Word) : (putBytes n a v s).phyOut = s.phyOut := by
  induction n generalizing a v s with
  | zero => rfl
  | succ n ih => simp [putBytes, ih]
@[simp] theorem putBytes_busResp (n a : Nat) (v : Word) : (putBytes n a v s).busResp = s.busResp := by
  induction n generalizing a v s with
  | zero => rfl
  | succ n ih => simp [putBytes, ih]

/-! ### withFetchWord -/

@[simp] theorem withFetchWord_inbox (n w : Nat) :
    (s.withFetchWord n w).inbox = cmdEvent (BitVec.ofNat 32 (w % 2 ^ n)) :: s.inbox := rfl

/-- The word put for the next step is the next step the machine takes. -/
@[simp] theorem nextEvent_withFetchWord (n w : Nat) :
    nextEvent (s.withFetchWord n w) = cmdEvent (BitVec.ofNat 32 (w % 2 ^ n)) := rfl

/-- Taking it leaves the state as it was. -/
@[simp] theorem takeEvent_withFetchWord (n w : Nat) : takeEvent (s.withFetchWord n w) = s := rfl

end Sys2Proof.Machine
end

