-- ==== Sys2Proof/Laws/Memory.lean ====
section
/-! SUPPORT. The laws of buffer memory: a read after a write, and that every memory operation keeps the canonical form. -/

namespace Sys2Proof.Machine

theorem memGet_memSet_same (m : Memory) (a : Nat) (b : Byte) : memGet (memSet m a b) a = some b := by
  induction m with
  | nil => simp [memSet, memGet]
  | cons c rest ih =>
    obtain ⟨k, v⟩ := c
    simp only [memSet]
    split_ifs with h1 h2
    · simp [memGet]
    · simp [memGet]
    · simp [memGet, h2, ih]

theorem memGet_memSet_other (m : Memory) {a x : Nat} (b : Byte) (h : x ≠ a) : memGet (memSet m a b) x = memGet m x := by
  induction m with
  | nil => simp [memSet, memGet, h]
  | cons c rest ih =>
    obtain ⟨k, v⟩ := c
    simp only [memSet]
    split_ifs with h1 h2
    · simp [memGet, h]
    · subst h2; simp [memGet, h]
    · simp [memGet, ih]

/-- A write keeps the rise of the offsets. -/
theorem risingFrom_memSet (m : Memory) {a lo : Nat} (b : Byte) (hlo : lo ≤ a) (h : risingFrom lo m = true) :
    risingFrom lo (memSet m a b) = true := by
  induction m generalizing lo with
  | nil => simp [memSet, risingFrom, hlo]
  | cons c rest ih =>
    obtain ⟨k, v⟩ := c
    simp only [risingFrom, Bool.and_eq_true, decide_eq_true_eq] at h
    simp only [memSet]
    split_ifs with h1 h2
    · simp only [risingFrom, Bool.and_eq_true, decide_eq_true_eq]; exact ⟨hlo, h1, h.2⟩
    · subst h2; simp only [risingFrom, Bool.and_eq_true, decide_eq_true_eq]; exact ⟨hlo, h.2⟩
    · simp only [risingFrom, Bool.and_eq_true, decide_eq_true_eq]; exact ⟨h.1, ih (by omega) h.2⟩

/-- The entries after a write are the new one and old ones. -/
theorem mem_of_mem_memSet {m : Memory} {a : Nat} {b : Byte} {c : Host.Cell} (h : c ∈ memSet m a b) : c = (a, b) ∨ c ∈ m := by
  induction m with
  | nil => simpa [memSet] using h
  | cons d rest ih =>
    obtain ⟨k, v⟩ := d
    simp only [memSet] at h
    split_ifs at h with h1 h2
    · simpa using h
    · rcases List.mem_cons.1 h with h | h
      · exact .inl h
      · exact .inr (List.mem_cons_of_mem _ h)
    · rcases List.mem_cons.1 h with h | h
      · exact .inr (h ▸ List.mem_cons_self)
      · rcases ih h with h | h
        · exact .inl h
        · exact .inr (List.mem_cons_of_mem _ h)

/-- Writing a buffer byte keeps the canonical form. -/
theorem Memory.wf_memSet {m : Memory} {a : Nat} (b : Byte) (ha : inTxbuf a = true ∨ inRxbuf a = true)
    (h : Memory.wf m = true) : Memory.wf (memSet m a b) = true := by
  simp only [Memory.wf, Bool.and_eq_true, List.all_eq_true] at h ⊢
  refine ⟨risingFrom_memSet m b (Nat.zero_le _) h.1, fun c hc => ?_⟩
  rcases mem_of_mem_memSet hc with rfl | hc
  · simpa [Memory.unlisted] using ha
  · exact h.2 c hc

/-- Reset memory is canonical. -/
theorem Memory.wf_reset (p : Params) : Memory.wf (State.resetWith p).mem = true := rfl

/-- Nothing is listed below where a canonical list starts. -/
theorem memGet_of_risingFrom {m : Memory} {lo a : Nat} (h : risingFrom lo m = true) (ha : a < lo) : memGet m a = none := by
  induction m generalizing lo with
  | nil => rfl
  | cons c rest ih =>
    obtain ⟨k, v⟩ := c
    simp only [risingFrom, Bool.and_eq_true, decide_eq_true_eq] at h
    rw [memGet, if_neg (by omega)]
    exact ih h.2 (by omega)

/-- Two canonical memories that list the same bytes are the same list. -/
theorem Memory.eq_of_memGet {m m' : Memory} {lo : Nat} (h : risingFrom lo m = true) (h' : risingFrom lo m' = true)
    (hg : ∀ a, memGet m a = memGet m' a) : m = m' := by
  induction m generalizing m' lo with
  | nil =>
    cases m' with
    | nil => rfl
    | cons d _ => simpa [memGet] using hg d.1
  | cons c rest ih =>
    obtain ⟨k, v⟩ := c
    cases m' with
    | nil => simpa [memGet] using hg k
    | cons d rest' =>
      obtain ⟨k', v'⟩ := d
      simp only [risingFrom, Bool.and_eq_true, decide_eq_true_eq] at h h'
      have below : ∀ {x y : Nat} {r : Memory} {u : Byte}, risingFrom (y + 1) r = true → x < y → memGet ((y, u) :: r) x = none :=
        fun hr hx => by rw [memGet, if_neg (by omega)]; exact memGet_of_risingFrom hr (by omega)
      obtain hk | rfl | hk := Nat.lt_trichotomy k k'
      · have := hg k; rw [below h'.2 hk] at this; simp [memGet] at this
      · have hv : v = v' := by simpa [memGet] using hg k
        rw [hv, ih h.2 h'.2 fun a => ?_]
        rcases Nat.lt_or_ge k a with ha | ha
        · have := hg a; rwa [memGet, if_neg (by omega), memGet, if_neg (by omega)] at this
        · rw [memGet_of_risingFrom h.2 (by omega), memGet_of_risingFrom h'.2 (by omega)]
      · have := hg k'; rw [below h.2 hk] at this; simp [memGet] at this

@[simp] theorem byteAt_putByte_same (s : State) (a : Nat) (b : Byte) : byteAt (putByte a b s) a = b := by
  simp [byteAt, memGet_memSet_same]

theorem byteAt_putByte_other (s : State) {a x : Nat} (b : Byte) (h : x ≠ a) : byteAt (putByte a b s) x = byteAt s x := by
  simp [byteAt, memGet_memSet_other _ b h]

/-- States that agree on buffer memory and on the draw in force read the same bytes. -/
theorem byteAt_congr {s t : State} (hm : t.mem = s.mem) (he : t.epoch = s.epoch) (a : Nat) : byteAt t a = byteAt s a := by
  simp [byteAt, hm, he]

/-- `putBytes` leaves every byte outside its `n` bytes alone. -/
theorem byteAt_putBytes_outside (n a : Nat) (v : Word) (s : State) {x : Nat} (h : x < a ∨ a + n ≤ x) :
    byteAt (putBytes n a v s) x = byteAt s x := by
  induction n generalizing a v s with
  | zero => rfl
  | succ n ih => rw [putBytes, ih _ _ _ (by omega), byteAt_putByte_other _ _ (by omega)]

/-- `putBytes` puts bits [8k+7:8k] of the value at offset `a + k` (20_memory.md R205). -/
theorem byteAt_putBytes_inside (n a : Nat) (v : Word) (s : State) {k : Nat} (h : k < n) :
    byteAt (putBytes n a v s) (a + k) = v.extractLsb' (8 * k) 8 := by
  induction n generalizing a v s k with
  | zero => omega
  | succ n ih =>
    rw [putBytes]
    cases k with
    | zero => rw [byteAt_putBytes_outside _ _ _ _ (by omega), Nat.add_zero, byteAt_putByte_same]
    | succ k =>
      rw [show a + (k + 1) = a + 1 + k by omega, ih _ _ _ (by omega)]
      ext i hi
      simp only [BitVec.getElem_extractLsb', BitVec.getLsbD_ushiftRight]
      congr 1; omega

/-- Writing bytes of a buffer keeps the canonical form. -/
theorem Memory.wf_putBytes (n a : Nat) (v : Word) (s : State)
    (ha : ∀ k < n, inTxbuf (a + k) = true ∨ inRxbuf (a + k) = true) (h : Memory.wf s.mem = true) :
    Memory.wf (putBytes n a v s).mem = true := by
  induction n generalizing a v s with
  | zero => exact h
  | succ n ih =>
    rw [putBytes]
    refine ih _ _ _ (fun k hk => ?_) (Memory.wf_memSet _ (ha 0 (by omega)) h)
    simpa [Nat.add_assoc, Nat.add_comm 1] using ha (k + 1) (by omega)

end Sys2Proof.Machine
end

