-- ==== Sys2Proof/Laws/Ops.lean ====
section
/-! SUPPORT. For each shared operation that answers, one lemma that says once everything it can do: if it answers a next
state, which one. Callers cite these instead of unfolding the operation. -/

namespace Sys2Proof.Machine

variable {s t : State}

/-- A byte offered to the FIFO is kept at its end, or dropped with OVERRUN (41_transport.md R530, R531). -/
theorem pushFifo_cases (b : Byte) (s : State) :
    (s.fifo.length = s.params.rxfifoDepth ∧ pushFifo b s = setFlags flagOverrun s) ∨
    (s.fifo.length ≠ s.params.rxfifoDepth ∧ pushFifo b s = { s with fifo := s.fifo ++ [b] }) := by
  unfold pushFifo; split_ifs with h
  · exact .inl ⟨h, rfl⟩
  · exact .inr ⟨h, rfl⟩

/-- The line is closed, or was (41_transport.md R512). -/
theorem closeLine_cases (s : State) :
    (s.status.link = .disconnected ∧ closeLine s = s) ∨
    (s.status.link ≠ .disconnected ∧ closeLine s = moveLink .disconnected (putOut .closeReq s)) := by
  unfold closeLine; split_ifs with h
  · exact .inl ⟨h, rfl⟩
  · exact .inr ⟨h, rfl⟩

/-- A transmitting command is refused for the link, refused for the length, or begins its TX phase (41_transport.md R513). -/
theorem startTransmit_cases (adr c1 c2 : Byte) (s : State) :
    (s.status.link ≠ .connected ∧ startTransmit adr c1 c2 s = finish codeNotConnected s) ∨
    (s.status.link = .connected ∧ maxLen < txLenNat s ∧ startTransmit adr c1 c2 s = finish codeLengthOverflow s) ∨
    (s.status.link = .connected ∧ txLenNat s ≤ maxLen ∧ startTransmit adr c1 c2 s = txBegin adr c1 c2 (txLenNat s) s) := by
  unfold startTransmit
  split_ifs with h1 h2
  · exact .inl ⟨h1, rfl⟩
  · exact .inr (.inl ⟨not_not.1 h1, h2, rfl⟩)
  · exact .inr (.inr ⟨not_not.1 h1, not_lt.1 h2, rfl⟩)

/-- The end of a TX phase (41_transport.md R523). -/
theorem txDone_next (h : txDone s = .next t) :
    ((s.status.op = opSend ∨ s.status.op = opRespond) ∧ t = finish codeOk s) ∨
    (s.status.op = opTransact ∧ t = startRx s) ∨
    (s.status.op = opReceive ∧ t = finish s.autoRtnCode s) := by
  unfold txDone at h
  split_ifs at h with h1 h2 h3
  · cases h; exact .inl ⟨h1, rfl⟩
  · cases h; exact .inr (.inl ⟨h2, rfl⟩)
  · cases h; exact .inr (.inr ⟨h3, rfl⟩)

/-- A sent byte is counted, and the last one ends the phase (41_transport.md R531, R532). -/
theorem advanceTx_next (h : advanceTx s = .next t) :
    (s.tx.idx + 1 = s.tx.img.length ∧ txDone (countSent s) = .next t) ∨
    (s.tx.idx + 1 ≠ s.tx.img.length ∧ t = countSent s) := by
  unfold advanceTx at h
  split_ifs at h with h1
  · exact .inl ⟨h1, h⟩
  · cases h; exact .inr ⟨h1, rfl⟩

/-- `tx_accept` emits the presented byte (41_transport.md R532). -/
theorem txAccept_next (h : txAccept s = .next t) :
    ∃ b, s.tx.img[s.tx.idx]? = some b ∧ advanceTx (putOut (.emit b) s) = .next t := by
  unfold txAccept at h
  split at h
  · next b hb => exact ⟨b, hb, h⟩
  · cases h

/-- `lb_emit` offers the presented byte to the FIFO (41_transport.md R531). -/
theorem lbEmit_next (h : lbEmit s = .next t) :
    ∃ b, s.tx.img[s.tx.idx]? = some b ∧ advanceTx (pushFifo b s) = .next t := by
  unfold lbEmit at h
  split at h
  · next b hb => exact ⟨b, hb, h⟩
  · cases h

/-- A complete frame is validated, and ends the RECEIVE or the TRANSACT (41_transport.md R543). -/
theorem frameDone_next (h : frameDone s = .next t) :
    let v := validateImage (rxImage s (rxFlenNat s)) s.regs.cfgVer
    (s.status.op = opReceive ∧ t = receiveDone v.1 (recordFrame v s)) ∨
    (s.status.op = opTransact ∧ t = transactDone v.1 (recordFrame v s)) := by
  unfold frameDone at h
  dsimp only at h ⊢
  split_ifs at h with h1 h2
  · cases h; exact .inl ⟨h1, rfl⟩
  · cases h; exact .inr ⟨h2, rfl⟩

/-- The byte at the EOI position discards the frame or completes it (41_transport.md R542). -/
theorem endOfFrame_next {b : Byte} (h : endOfFrame b s = .next t) :
    (b ≠ eoi ∧ t = resumeHunt (countDiscard s)) ∨
    (b = eoi ∧ frameDone { s with rxFlen := BitVec.ofNat 13 s.rx.need } = .next t) := by
  unfold endOfFrame at h
  split_ifs at h with h1
  · cases h; exact .inl ⟨h1, rfl⟩
  · exact .inr ⟨not_not.1 h1, h⟩

/-- A collected byte is stored, and may stand at the EOI position (41_transport.md R542). -/
theorem collect_next {b : Byte} (h : collect b s = .next t) :
    s.rx.idx < rxSize ∧
    (((minFrame ≤ (storeByte b s).rx.idx ∧ (storeByte b s).rx.idx = (storeByte b s).rx.need) ∧
        endOfFrame b (storeByte b s) = .next t) ∨
     (¬(minFrame ≤ (storeByte b s).rx.idx ∧ (storeByte b s).rx.idx = (storeByte b s).rx.need) ∧ t = storeByte b s)) := by
  unfold collect at h
  dsimp only at h
  split_ifs at h with h1 h2
  · exact ⟨not_le.1 h1, .inl ⟨h2, h⟩⟩
  · cases h; exact ⟨not_le.1 h1, .inr ⟨h2, rfl⟩⟩

/-- One FIFO byte is hunted or collected (41_transport.md R540). -/
theorem rxConsume_next (h : rxConsume s = .next t) :
    (s.fifo = [] ∧ t = s) ∨
    (∃ b rest, s.fifo = b :: rest ∧
      ((s.status.rxst = .hunt ∧ t = hunt b (popFifo rest s)) ∨
       (s.status.rxst = .collect ∧ collect b (popFifo rest s) = .next t))) := by
  unfold rxConsume at h
  split at h
  · next hf => cases h; exact .inl ⟨hf, rfl⟩
  · next b rest hf =>
    refine .inr ⟨b, rest, hf, ?_⟩
    split at h
    · next hr => cases h; exact .inl ⟨hr, rfl⟩
    · next hr => exact .inr ⟨hr, h⟩
    · cases h

/-- A timeout finishes the RECEIVE or the TRANSACT with its own code (41_transport.md R547). -/
theorem timeoutFinish_next (h : timeoutFinish s = .next t) :
    (s.status.op = opReceive ∧ t = finish codeReceiveTimeout s) ∨
    (s.status.op = opTransact ∧ t = finish codeNoResponse s) := by
  unfold timeoutFinish at h
  split_ifs at h with h1 h2
  · cases h; exact .inl ⟨h1, rfl⟩
  · cases h; exact .inr ⟨h2, rfl⟩

/-- `io_error` by phase (41_transport.md R504). -/
theorem ioError_next (h : ioError s = .next t) :
    (s.status.phase = .tx ∧ s.status.op = opReceive ∧
      t = finish s.autoRtnCode { dropLine s with result := { s.result with autoRtnFail := true } }) ∨
    (s.status.phase = .tx ∧ s.status.op ≠ opReceive ∧ t = finish codeWriteFailure (dropLine s)) ∨
    (s.status.phase = .rx ∧ t = finish codeReadFailure (dropLine s)) ∨
    (s.status.phase = .none ∧ t = dropLine s) := by
  unfold ioError at h
  split at h
  · next hp =>
    split_ifs at h with h1
    · cases h; exact .inl ⟨hp, h1, rfl⟩
    · cases h; exact .inr (.inl ⟨hp, h1, rfl⟩)
  · next hp => cases h; exact .inr (.inr (.inl ⟨hp, rfl⟩))
  · next hp => cases h; exact .inr (.inr (.inr ⟨hp, rfl⟩))
  · cases h

/-- Every command answers a next state: rejected while busy, or with its own effect. A DISCONNECT in an OPEN or RX phase has
its effect while busy (41_transport.md R510). -/
theorem exec_next (i : Instr) (s : State) :
    (s.status.busy = true ∧ (i = .disconnect → ¬(s.status.phase = .opening ∨ s.status.phase = .rx)) ∧
      exec i s = .next (rejectCommand s)) ∨
    (s.status.busy = true ∧ i = .disconnect ∧ (s.status.phase = .opening ∨ s.status.phase = .rx) ∧
      exec i s = .next (finish codeAborted (disconnectLine s))) ∨
    (s.status.busy = false ∧
      exec i s = .next (match i with
        | .nop => s
        | .connect => openLine (acceptCommand opConnect s)
        | .disconnect => finish codeOk (disconnectLine s)
        | .send => startTransmit (txAdr s) (txCid1 s) (txCid2 s) (acceptCommand opSend s)
        | .receive => startReceive (acceptCommand opReceive s)
        | .transact => startTransmit (txAdr s) (txCid1 s) (txCid2 s) (acceptCommand opTransact s)
        | .respond rtn => startTransmit (rxAdr s) (rxCid1 s) rtn (acceptCommand opRespond s)
        | .validate => validateRxbuf (acceptCommand opValidate s))) := by
  cases hb : s.status.busy
  · refine .inr (.inr ⟨rfl, ?_⟩)
    cases i <;> simp [exec, execNop, execConnect, execDisconnect, execSend, execReceive, execTransact, execRespond,
      execValidate, hb]
  · by_cases hd : i = .disconnect ∧ (s.status.phase = .opening ∨ s.status.phase = .rx)
    · obtain ⟨rfl, hp⟩ := hd
      exact .inr (.inl ⟨rfl, rfl, hp, by simp [exec, execDisconnect, hb, hp]⟩)
    · refine .inl ⟨rfl, fun hi hp => hd ⟨hi, hp⟩, ?_⟩
      cases i <;> simp_all [exec, execNop, execConnect, execDisconnect, execSend, execReceive, execTransact, execRespond,
        execValidate]

/-- A collected byte changes RXBUF at rx_idx and the two sequencing registers, and the seventh settles rx_need
(41_transport.md R542). -/
theorem storeByte_eq (b : Byte) (s : State) : ∃ need,
    storeByte b s = { putByte (rxBase + s.rx.idx) b s with rx := { idx := s.rx.idx + 1, need := need } } ∧
    (s.rx.idx + 1 = 7 → need = minFrame + (lenId (rxbuf (storeByte b s) 5) (rxbuf (storeByte b s) 6)).toNat) ∧
    (s.rx.idx + 1 ≠ 7 → need = s.rx.need) := by
  unfold storeByte
  dsimp only
  split_ifs with h
  · exact ⟨_, rfl, fun _ => rfl, fun h' => absurd h h'⟩
  · exact ⟨_, rfl, fun h' => absurd h' h, fun _ => rfl⟩

/-- Recording a validation changes LENERR_KIND, RXST and CNT_FRAMES_OK alone (41_transport.md R543). -/
theorem recordFrame_eq (v : Byte × Bool) (s : State) :
    recordFrame v s = { s with
      result := { s.result with lenErrKind := v.2 }
      status := { s.status with rxst := .idle }
      counters := { s.counters with
        framesOk := if v.1 = codeOk then s.counters.framesOk + 1#16 else s.counters.framesOk } } := by
  unfold recordFrame
  dsimp only
  split_ifs <;> rfl

/-- `putBytes` changes buffer memory alone. -/
theorem putBytes_eq (n a : Nat) (v : Word) (s : State) : putBytes n a v s = { s with mem := (putBytes n a v s).mem } := by
  induction n generalizing a v s with
  | zero => rfl
  | succ n ih => rw [putBytes, ih]; rfl

end Sys2Proof.Machine
end

