-- ==== Sys2Proof/Laws/Codec.lean ====
section
/-! SUPPORT. Sizes and readings of frame images: the lengths of what the codec builds, what an image built from RXBUF reads as,
and how sums split. -/

namespace Sys2Proof.Machine

@[simp] theorem lenField_length (n : Nat) : (lenField n).length = 2 := rfl

@[simp] theorem bigEndian_length (c : BitVec 16) : (bigEndian c).length = 2 := rfl

@[simp] theorem frameBody_length (ver adr c1 c2 : Byte) (p : List Byte) :
    (frameBody ver adr c1 c2 p).length = 6 + p.length := by
  simp only [frameBody, List.length_append, lenField_length]; rfl

@[simp] theorem txPayload_length (s : State) (n : Nat) : (txPayload s n).length = n := by simp [txPayload]

@[simp] theorem rxImage_length (s : State) (n : Nat) : (rxImage s n).length = n := by simp [rxImage]

/-- Byte `i` of the image of RXBUF is RXBUF[i]. -/
theorem at0_rxImage (s : State) {n i : Nat} (h : i < n) : at0 (rxImage s n) i = rxbuf s i := by
  simp [at0, rxImage, h]

/-- The sum of the bytes of a sequence splits over a concatenation. -/
theorem sumBytes_append (a b : List Byte) : sumBytes (a ++ b) = sumBytes a + sumBytes b := by
  induction a with
  | nil => simp [sumBytes]
  | cons x a ih => simp [sumBytes, ih, Nat.add_assoc]

/-- LENID is at most MAX_LEN (30_encoding.md R302). -/
theorem lenId_le (hi lo : Byte) : (lenId hi lo).toNat ≤ maxLen := by
  have := (lenId hi lo).isLt; simp only [maxLen]; omega

/-- States that agree on buffer memory and on the draw in force build the same images. -/
theorem rxImage_congr {s t : State} (hm : t.mem = s.mem) (he : t.epoch = s.epoch) (n : Nat) : rxImage t n = rxImage s n :=
  List.map_congr_left fun _ _ => byteAt_congr hm he _

/-- The same for the payload. -/
theorem txPayload_congr {s t : State} (hm : t.mem = s.mem) (he : t.epoch = s.epoch) (n : Nat) : txPayload t n = txPayload s n :=
  List.map_congr_left fun _ _ => byteAt_congr hm he _

end Sys2Proof.Machine
end

