-- ==== Sys2Proof/Laws/PerInstr.lean ====
section
/-! SUPPORT. What holds of every instruction as syntax, one lemma per constructor: its word carries its opcode in [3:0], its
argument in [15:8] and 0 elsewhere (30_encoding.md R320, R323). -/

namespace Sys2Proof.Laws.EncLegal

/-- The fields of an instruction's word. -/
def Statement (i : Instr) : Prop :=
  wordOp (encode i) = i.opcode ∧ wordArg (encode i) = i.arg ∧ (encode i).extractLsb' 4 4 = 0#4 ∧
  (encode i).extractLsb' 16 16 = 0#16

theorem nop : Statement .nop := by unfold Statement; decide
theorem connect : Statement .connect := by unfold Statement; decide
theorem disconnect : Statement .disconnect := by unfold Statement; decide
theorem send : Statement .send := by unfold Statement; decide
theorem receive : Statement .receive := by unfold Statement; decide
theorem transact : Statement .transact := by unfold Statement; decide
theorem respond (rtn : Byte) : Statement (.respond rtn) := by unfold Statement; revert rtn; decide
theorem validate : Statement .validate := by unfold Statement; decide

end Sys2Proof.Laws.EncLegal
end

