-- ==== Sys2Proof/Laws/Script.lean ====
section
/-! SUPPORT. The run of a line and of a program: every internal step makes the internal measure smaller, so the internal steps
after a line always come to an end, and what a `POLL` does (70_reset_and_hazards.md R830). -/

namespace Sys2Proof.Machine

variable {s t : State} {f : State → Answer}

@[simp] theorem andThen_next (s : State) (f : State → Answer) : andThen (.next s) f = f s := rfl

@[simp] theorem proceed_next (s : State) (f : State → ProgramEnd) : proceed (.next s) f = f s := rfl

/-- Two parts answer a next state exactly when the second answers it from the state the first answers. -/
theorem andThen_eq_next {a : Answer} : andThen a f = .next t ↔ ∃ u, a = .next u ∧ f u = .next t := by
  cases a <;> simp [andThen]

/-- A program goes on to an end state exactly when its next part answers a state and the rest ends there. -/
theorem proceed_eq_ended {a : Answer} {g : State → ProgramEnd} :
    proceed a g = .ended t ↔ ∃ u, a = .next u ∧ g u = .ended t := by
  cases a <;> simp [proceed]

@[simp] theorem encodeFrame_length (ver adr c1 c2 : Byte) (p : List Byte) :
    (encodeFrame ver adr c1 c2 p).length = minFrame + p.length := by
  simp [encodeFrame, minFrame]; omega

/-- The end of a command ends its internal steps. -/
@[simp] theorem internalMeasure_finish (code : Byte) (s : State) : internalMeasure (finish code s) = 0 := rfl

/-- What follows a frame in a RECEIVE: nothing, or an automatic error response of 10 bytes (41_transport.md R544). -/
theorem internalMeasure_receiveDone (code : Byte) (s : State) (h : s.status.op = opReceive) :
    internalMeasure (receiveDone code s) ≤ minFrame := by
  unfold receiveDone
  split_ifs
  · simp [internalMeasure, autoRtn, txBegin, h]
  · simp

/-- A TRANSACT ends with its frame (42_engine.md R612). -/
theorem internalMeasure_transactDone (code : Byte) (s : State) : internalMeasure (transactDone code s) = 0 := by
  unfold transactDone
  dsimp only
  split_ifs <;> simp

/-- Each consumed byte makes the internal measure smaller (41_transport.md R540). -/
theorem rxConsume_measure (hp : s.status.phase = .rx) (hf : s.fifo ≠ []) (h : rxConsume s = .next t) :
    internalMeasure t < internalMeasure s := by
  have hs : internalMeasure s = s.fifo.length + (minFrame + 1) := by simp [internalMeasure, hp]
  obtain ⟨h0, -⟩ | ⟨b, rest, hb, hc⟩ := rxConsume_next h
  · exact absurd h0 hf
  rw [hs, hb]
  have rxCase {u : State} (h1 : u.status.phase = .rx) (h2 : u.fifo = rest) :
      internalMeasure u < (b :: rest).length + (minFrame + 1) := by
    simp [internalMeasure, h1, h2]
  obtain ⟨-, rfl⟩ | ⟨-, hc⟩ := hc
  · unfold hunt
    split_ifs <;> exact rxCase hp rfl
  · obtain ⟨need, hst, -, -⟩ := storeByte_eq b (popFifo rest s)
    obtain ⟨-, ⟨-, he⟩ | ⟨-, rfl⟩⟩ := collect_next hc
    · obtain ⟨-, rfl⟩ | ⟨-, hd⟩ := endOfFrame_next he
      · rw [hst]; exact rxCase hp rfl
      · obtain ⟨ho, rfl⟩ | ⟨-, rfl⟩ := frameDone_next hd
        · refine lt_of_le_of_lt (internalMeasure_receiveDone _ _ ?_) (by simp; omega)
          rw [recordFrame_eq]; exact ho
        · rw [internalMeasure_transactDone]; simp
    · rw [hst]; exact rxCase hp rfl

/-- Each looped-back byte makes the internal measure smaller (41_transport.md R531). -/
theorem lbEmit_measure (hp : s.status.phase = .tx) (h : lbEmit s = .next t) : internalMeasure t < internalMeasure s := by
  obtain ⟨b, hb, ha⟩ := lbEmit_next h
  have hlt : s.tx.idx < s.tx.img.length := (List.getElem?_eq_some_iff.1 hb).1
  have hpush : (pushFifo b s).status = s.status ∧ (pushFifo b s).tx = s.tx ∧
      (pushFifo b s).fifo.length ≤ s.fifo.length + 1 := by
    obtain ⟨-, h1⟩ | ⟨-, h1⟩ := pushFifo_cases b s <;> rw [h1] <;> simp [setFlags]
  obtain ⟨h1, h2, h3⟩ := hpush
  obtain ⟨-, hd⟩ | ⟨hne, rfl⟩ := advanceTx_next ha
  · have hpos : 0 < internalMeasure s := by simp only [internalMeasure, hp]; split <;> omega
    obtain ⟨-, rfl⟩ | ⟨ho, rfl⟩ | ⟨-, rfl⟩ := txDone_next hd
    · simpa using hpos
    · have ho' : s.status.op = opTransact := by rw [← h1]; exact ho
      have hnr : s.status.op ≠ opReceive := by rw [ho']; decide
      have : internalMeasure (startRx (countSent (pushFifo b s))) = (pushFifo b s).fifo.length + (minFrame + 1) := rfl
      rw [this]
      simp only [internalMeasure, hp, hnr, if_false]
      omega
    · simpa using hpos
  · simp only [internalMeasure, countSent, h1, h2, hp]
    split <;> omega

/-- Every internal step makes the internal measure smaller (41_transport.md R500). -/
theorem internalStep_measure (h : internalEnabled s = true) (hn : internalStep s = .next t) :
    internalMeasure t < internalMeasure s := by
  unfold internalStep at hn
  split_ifs at hn with h1
  · simp only [rxConsumeEnabled, Bool.and_eq_true, decide_eq_true_eq, Bool.not_eq_true', List.isEmpty_eq_false_iff] at h1
    exact rxConsume_measure h1.1 h1.2 hn
  · have h2 : lbEmitEnabled s = true := by simpa [internalEnabled, h1] using h
    simp only [lbEmitEnabled, Bool.and_eq_true, decide_eq_true_eq] at h2
    exact lbEmit_measure h2.1 hn

/-- With a bound above the internal measure, internal steps go on until none is enabled. -/
theorem settleWithin_settled {n : Nat} (hm : internalMeasure s < n) (h : settleWithin n s = .next t) :
    internalEnabled t = false := by
  induction n generalizing s with
  | zero => omega
  | succ n ih =>
    unfold settleWithin at h
    split_ifs at h with he
    · obtain ⟨u, hu, hn⟩ := andThen_eq_next.1 h
      exact ih (by have := internalStep_measure he hu; omega) hn
    · cases h; simpa using he

/-- `settle` leaves no internal step enabled (70_reset_and_hazards.md R830). -/
theorem settle_settled (h : settle s = .next t) : internalEnabled t = false :=
  settleWithin_settled (Nat.lt_succ_self _) h

/-- With no internal step enabled `settle` does nothing. -/
theorem settle_of_settled (h : internalEnabled s = false) : settle s = .next s := by
  simp [settle, settleWithin, h]

/-- A line leaves no internal step enabled (70_reset_and_hazards.md R830). -/
theorem runLine_settled {l : Line} (h : runLine l s = .next t) : internalEnabled t = false := by
  obtain ⟨u, -, hu⟩ := andThen_eq_next.1 h
  exact settle_settled hu

/-- A read of STATUS where no internal step is enabled changes the response alone (20_memory.md R209). -/
theorem runLine_poll (h : internalEnabled s = false) :
    runLine .poll s = .next { s with busResp := .data (statusWord s) } := by
  have h' : internalEnabled { s with busResp := .data (statusWord s) } = false := h
  exact settle_of_settled h'

@[simp] theorem readsBusy_eq (s : State) : readsBusy s = s.status.busy := by
  unfold readsBusy statusWord bitAt
  cases s.status.busy <;> simp

end Sys2Proof.Machine
end

