-- ==== Sys2Proof/Laws/Step.lean ====
section
/-! SUPPORT. What a host access and a step can do, said once (20_memory.md R206, 41_transport.md R500). -/

namespace Sys2Proof.Machine

variable {s t : State}

/-- A CMD write runs a legal word's instruction and finishes or rejects an illegal one (41_transport.md R510). -/
theorem cmdWrite_cases (w : Word) (s : State) :
    (∃ i, decode w = .instr i ∧ cmdWrite w s = exec i s) ∨
    (∃ why, decode w = .reject why ∧ cmdWrite w s = .next (illegalCommand (wordOp w) s)) := by
  unfold cmdWrite
  split
  · next i hi => exact .inl ⟨i, hi, rfl⟩
  · next why hw => exact .inr ⟨why, hw, rfl⟩

/-- A host write is a bus error, a command word, a register write or a buffer write (20_memory.md R206). -/
theorem hostWrite_cases (a : BitVec 16) (n : Nat) (v : Word) (s : State) :
    ((aligned a.toNat n = false ∨ regionOf a.toNat n = .none) ∧ hostWrite a n v s = .next (answer .busError s)) ∨
    (aligned a.toNat n = true ∧ regionOf a.toNat n = .reg ∧ a = cmdOffset ∧
      hostWrite a n v s = cmdWrite v (answer .done s)) ∨
    (aligned a.toNat n = true ∧ regionOf a.toNat n = .reg ∧ a ≠ cmdOffset ∧
      hostWrite a n v s = .next (regWrite a.toNat v (answer .done s))) ∨
    (aligned a.toNat n = true ∧ regionOf a.toNat n = .txb ∧ hostWrite a n v s =
      .next (bufWrite (decide (s.status.phase = .tx)) a.toNat n v (answer .done s))) ∨
    (aligned a.toNat n = true ∧ regionOf a.toNat n = .rxb ∧ hostWrite a n v s =
      .next (bufWrite (decide (s.status.phase = .rx)) a.toNat n v (answer .done s))) := by
  cases h1 : aligned a.toNat n
  · exact .inl ⟨.inl rfl, by simp [hostWrite, h1]⟩
  · cases hr : regionOf a.toNat n
    · by_cases h2 : a = cmdOffset
      · exact .inr (.inl ⟨rfl, rfl, h2, by simp only [hostWrite, h1, hr]; simp [h2]⟩)
      · exact .inr (.inr (.inl ⟨rfl, rfl, h2, by simp only [hostWrite, h1, hr]; simp [h2]⟩))
    · exact .inr (.inr (.inr (.inl ⟨rfl, rfl, by simp only [hostWrite, h1, hr]; simp⟩)))
    · exact .inr (.inr (.inr (.inr ⟨rfl, rfl, by simp only [hostWrite, h1, hr]; simp⟩)))
    · exact .inl ⟨.inr rfl, by simp only [hostWrite, h1, hr]; simp⟩

/-- A 4-byte write to CMD is a CMD write (41_transport.md R510). -/
theorem perform_cmdEvent (w : Word) (s : State) : perform (cmdEvent w) s = cmdWrite w (answer .done s) := rfl

/-- Outside a tick that an internal step holds up, a step performs the next choice (10_state.md R104, R105). -/
theorem step_perform (h : nextEvent s ≠ .tick ∨ internalEnabled s = false) :
    step s = perform (nextEvent s) (takeEvent s) := by
  unfold step
  rw [if_neg]
  rintro ⟨h1, h2⟩
  rcases h with h | h
  · exact h h1
  · simp [h] at h2

/-- A tick that an internal step holds up is not taken: the internal step is (10_state.md R104). -/
theorem step_internal (h1 : nextEvent s = .tick) (h2 : internalEnabled s = true) : step s = internalStep s := by
  unfold step
  rw [if_pos ⟨h1, h2⟩]

/-- With a choice in the inbox, that choice is the next one. -/
theorem nextEvent_cons {e : Event} {es : List Event} (h : s.inbox = e :: es) :
    nextEvent s = e ∧ takeEvent s = { s with inbox := es } := by
  simp [nextEvent, takeEvent, h]

/-- Everything a step can do (41_transport.md R500): the internal step that holds up a tick, or the next choice, taken when
its enabling condition holds and passed over when it does not. -/
theorem step_cases (s : State) :
    (nextEvent s = .tick ∧ internalEnabled s = true ∧ step s = internalStep s) ∨
    (∃ a n, nextEvent s = .hostRead a n ∧ step s = .next (hostRead a n (takeEvent s))) ∨
    (∃ a n v, nextEvent s = .hostWrite a n v ∧ step s = hostWrite a n v (takeEvent s)) ∨
    (∃ b, nextEvent s = .rxByte b ∧ step s = .next (rxByte b (takeEvent s))) ∨
    (txAcceptEnabled s = true ∧ step s = txAccept (takeEvent s)) ∨
    (s.status.link = .connecting ∧ step s = .next (openOk (takeEvent s))) ∨
    (s.status.link = .connecting ∧ step s = .next (openFail (takeEvent s))) ∨
    (s.status.link = .connected ∧ step s = ioError (takeEvent s)) ∨
    (nextEvent s = .tick ∧ internalEnabled s = false ∧ step s = tick (takeEvent s)) ∨
    (rxConsumeEnabled s = true ∧ step s = rxConsume (takeEvent s)) ∨
    (lbEmitEnabled s = true ∧ step s = lbEmit (takeEvent s)) ∨
    (nextEvent s = .reset ∧ step s = .next (resetStep (takeEvent s))) ∨
    step s = .next (takeEvent s) := by
  by_cases hk : nextEvent s = .tick ∧ internalEnabled s = true
  · exact .inl ⟨hk.1, hk.2, step_internal hk.1 hk.2⟩
  have hs : step s = perform (nextEvent s) (takeEvent s) := by unfold step; rw [if_neg hk]
  rw [hs]
  cases he : nextEvent s <;> simp only [perform, Event.hostRead.injEq, Event.hostWrite.injEq, Event.rxByte.injEq,
    reduceCtorEq, false_and, exists_false, false_or, true_and]
  case hostRead a n => exact .inl ⟨a, n, ⟨rfl, rfl⟩, rfl⟩
  case hostWrite a n v => exact .inl ⟨a, n, v, ⟨rfl, rfl, rfl⟩, rfl⟩
  case rxByte b => exact .inl ⟨b, rfl, rfl⟩
  case txAccept =>
    by_cases h : txAcceptEnabled s = true
    · have h' : txAcceptEnabled (takeEvent s) = true := by simpa [txAcceptEnabled] using h
      exact .inl ⟨h, by rw [if_pos h']⟩
    · have h' : ¬ txAcceptEnabled (takeEvent s) = true := by simpa [txAcceptEnabled] using h
      simp [h']
  case openOk =>
    by_cases h : s.status.link = .connecting
    · exact .inr (.inl ⟨h, by simp [h]⟩)
    · simp [h]
  case openFail =>
    by_cases h : s.status.link = .connecting
    · exact .inr (.inr (.inl ⟨h, by simp [h]⟩))
    · simp [h]
  case ioError =>
    by_cases h : s.status.link = .connected
    · exact .inr (.inr (.inr (.inl ⟨h, by simp [h]⟩)))
    · simp [h]
  case tick =>
    have h : internalEnabled s = false := by simpa [he] using hk
    simp [h]
  case rxConsume =>
    by_cases h : rxConsumeEnabled s = true
    · have h' : rxConsumeEnabled (takeEvent s) = true := by simpa [rxConsumeEnabled] using h
      exact .inr (.inr (.inr (.inr (.inl ⟨h, by rw [if_pos h']⟩))))
    · have h' : ¬ rxConsumeEnabled (takeEvent s) = true := by simpa [rxConsumeEnabled] using h
      simp [h']
  case lbEmit =>
    by_cases h : lbEmitEnabled s = true
    · have h' : lbEmitEnabled (takeEvent s) = true := by simpa [lbEmitEnabled] using h
      exact .inr (.inr (.inr (.inr (.inr (.inl ⟨h, by rw [if_pos h']⟩)))))
    · have h' : ¬ lbEmitEnabled (takeEvent s) = true := by simpa [lbEmitEnabled] using h
      simp [h']
  case reset => simp

end Sys2Proof.Machine
end

