-- ==== Sys2Proof/Tests/Slice0.lean ====
section
/-! SUPPORT. The tests of the model: the four checks of a command word, words written out from the encoding, the spec's own
vectors on one step of each command, and for every statement with hypotheses a witness that meets them. -/

namespace Sys2Proof.Tests

open Sys2Proof Sys2Proof.Machine

/-! ### Small states -/

/-- The next state of an answer. -/
def nextOf (a : Answer) : Option State :=
  match a with
  | .next s => some s
  | .fault _ => none
  | .refused _ => none

/-- After reset, with depth 4105 and version 0x20, the depth and version of 95_test_vectors.md. -/
def st0 : State := State.resetWith { verReset := 0x20#8, rxfifoDepth := 4105 }

/-- Idle and connected (95 §1, STATUS 0x10C). -/
def stConn : State := { st0 with status := { st0.status with link := .connected, armed := true, op := 0x1#4 } }

/-- A CONNECT waits (95 §1, STATUS 0x113). -/
def stOpen : State :=
  { st0 with status := { st0.status with busy := true, link := .connecting, phase := .opening, op := 0x1#4 } }

/-- An automatic open attempt (95 §1, STATUS 0x10A). -/
def stAuto : State := { st0 with status := { st0.status with link := .connecting, armed := true, op := 0x1#4 } }

/-- Disconnected and armed (95 §1, STATUS 0x108). -/
def stWait : State := { st0 with status := { st0.status with armed := true, op := 0x1#4 } }

/-- Frame A of 95 §1. -/
def frameA : List Byte := [0x7E#8, 0x20#8, 0x01#8, 0x40#8, 0x4F#8, 0x00#8, 0x00#8, 0xFF#8, 0x50#8, 0x0D#8]

/-- Frame B of 95 §1. -/
def frameB : List Byte :=
  [0x7E#8, 0x20#8, 0x01#8, 0x40#8, 0x00#8, 0xE0#8, 0x01#8, 0x01#8, 0xFE#8, 0xBD#8, 0x0D#8]

/-- A transmitting command with opcode `op` at byte `i` of frame A. -/
def stTx (op : BitVec 4) (i : Nat) : State :=
  { stConn with status := { stConn.status with busy := true, phase := .tx, op := op }, tx := { img := frameA, idx := i } }

/-- A receiving command with opcode `op`, hunting (95 §1, STATUS 0x47D with op 4). -/
def stRx (op : BitVec 4) : State :=
  { stConn with status := { stConn.status with busy := true, phase := .rx, rxst := .hunt, op := op } }

/-- Buffer bytes from an offset on, as a memory. -/
def memFrom (a : Nat) : List Byte → Memory
  | [] => []
  | b :: bs => (a, b) :: memFrom (a + 1) bs

/-- A RECEIVE that has stored the first `i` bytes of frame A. -/
def stCollect (i : Nat) : State :=
  { stRx 0x4#4 with
    status := { (stRx 0x4#4).status with rxst := .collect }
    mem := memFrom rxBase (frameA.take i)
    rx := { idx := i, need := 10 } }

/-- `img` in RXBUF with RX_FLEN its length. -/
def stImage (s : State) (img : List Byte) : State :=
  { s with mem := memFrom rxBase img, rxFlen := BitVec.ofNat 13 img.length }

/-- `e` is the next step. -/
def on (e : Event) (s : State) : State := { s with inbox := [e] }

/-- CTRL.LOOPBACK = 1. -/
def looped (s : State) : State := { s with regs := { s.regs with loopback := true } }

/-! ### WellFormed: a term for each check, which the check refuses (30_encoding.md R322) -/

theorem test_opAssigned_refuses : opAssigned 0x8#4 = false ∧ opAssigned 0x7#4 = true := by decide
theorem test_lowReserved_refuses : lowReservedClear 0x1#4 = false ∧ lowReservedClear 0x0#4 = true := by decide
theorem test_highReserved_refuses : highReservedClear 0x8000#16 = false ∧ highReservedClear 0x0000#16 = true := by decide
theorem test_argAllowed_refuses : argAllowed 0x5#4 0x01#8 = false ∧ argAllowed 0x6#4 0xFF#8 = true := by decide
theorem test_fieldsLegal_refuses_each :
    fieldsLegal 0x8#4 0x0#4 0x00#8 0x0000#16 = false ∧ fieldsLegal 0x3#4 0x1#4 0x00#8 0x0000#16 = false ∧
    fieldsLegal 0x3#4 0x0#4 0x00#8 0x0001#16 = false ∧ fieldsLegal 0x3#4 0x0#4 0x01#8 0x0000#16 = false ∧
    fieldsLegal 0x3#4 0x0#4 0x00#8 0x0000#16 = true := by decide

/-! ### Decoding: words written out bit by bit from R320 and R321 (reserved, ARG, reserved, OP) -/

theorem test_decode_nop : decode (0x0000#16 ++ 0x00#8 ++ 0b0000#4 ++ 0b0000#4) = .instr .nop := by decide
theorem test_decode_connect : decode (0x0000#16 ++ 0x00#8 ++ 0b0000#4 ++ 0b0001#4) = .instr .connect := by decide
theorem test_decode_disconnect : decode (0x0000#16 ++ 0x00#8 ++ 0b0000#4 ++ 0b0010#4) = .instr .disconnect := by decide
theorem test_decode_send : decode (0x0000#16 ++ 0x00#8 ++ 0b0000#4 ++ 0b0011#4) = .instr .send := by decide
theorem test_decode_receive : decode (0x0000#16 ++ 0x00#8 ++ 0b0000#4 ++ 0b0100#4) = .instr .receive := by decide
theorem test_decode_transact : decode (0x0000#16 ++ 0x00#8 ++ 0b0000#4 ++ 0b0101#4) = .instr .transact := by decide
theorem test_decode_respond : decode (0x0000#16 ++ 0x04#8 ++ 0b0000#4 ++ 0b0110#4) = .instr (.respond 0x04#8) := by decide
theorem test_decode_validate : decode (0x0000#16 ++ 0x00#8 ++ 0b0000#4 ++ 0b0111#4) = .instr .validate := by decide
theorem test_decode_reserved_opcode : decode 0x0000000F#32 = .reject .reservedOpcode := by decide
theorem test_decode_arg_on_send : decode 0x00000403#32 = .reject .argNotZero := by decide

/-! ### The codec on the frames of 95 §1 -/

theorem test_encode_A : encodeFrame 0x20#8 0x01#8 0x40#8 0x4F#8 [] = frameA := by decide
theorem test_encode_B : encodeFrame 0x20#8 0x01#8 0x40#8 0x00#8 [0x01#8] = frameB := by decide
theorem test_encode_D : encodeFrame 0x20#8 0x05#8 0x41#8 0x42#8 [0x7E#8, 0x0D#8, 0xFF#8] =
    [0x7E#8, 0x20#8, 0x05#8, 0x41#8, 0x42#8, 0xA0#8, 0x03#8, 0x7E#8, 0x0D#8, 0xFF#8, 0xFD#8, 0x2B#8, 0x0D#8] := by decide
theorem test_encode_H : encodeFrame 0x20#8 0xFF#8 0xFF#8 0xFF#8 [0xFF#8, 0xFF#8, 0xFF#8, 0xFF#8] =
    [0x7E#8, 0x20#8, 0xFF#8, 0xFF#8, 0xFF#8, 0x80#8, 0x04#8, 0xFF#8, 0xFF#8, 0xFF#8, 0xFF#8, 0xF8#8, 0x63#8, 0x0D#8] := by
  decide
/-- 95 §2 S8: a corrupted length nibble. -/
theorem test_validate_nibble : validateImage (frameB.set 5 0xF0#8) 0x20#8 = (0x03#8, false) := by decide
/-- 95 §1: frame G, frame B with VER 0x21. -/
theorem test_validate_version : validateImage ((frameB.set 1 0x21#8).set 9 0xBC#8) 0x20#8 = (0x01#8, false) ∧
    validateImage ((frameB.set 1 0x21#8).set 9 0xBC#8) 0x21#8 = (0x00#8, false) := by decide

/-! ### One step of each command, with the STATUS and RESULT values of 95 §1 and of the rules' examples -/

theorem test_connect_waits :
    (nextOf (exec .connect st0)).map (fun s => (regRead 0x00C s, s.phyOut)) = some (0x113#32, [.openReq 0#32]) := by decide
theorem test_connect_joins : (nextOf (exec .connect stAuto)).map (regRead 0x00C) = some 0x11B#32 := by decide
theorem test_disconnect_aborts :
    (nextOf (exec .disconnect (stRx 0x4#4))).map (fun s => (regRead 0x00C s, regRead 0x010 s, regRead 0x014 s)) =
      some (0x200#32, 0x0E#32, 0x07#32) := by decide
theorem test_disconnect_rejected_in_tx :
    (nextOf (exec .disconnect (stTx 0x3#4 0))).map (fun s => (regRead 0x00C s, regRead 0x014 s)) =
      some (0x32D#32, 0x10#32) := by decide
theorem test_send_begins :
    (nextOf (exec .send { stConn with regs := { stConn.regs with txHdr := 0x4F4001#24 } })).map
      (fun s => (regRead 0x00C s, s.tx.img)) = some (0x32D#32, frameA) := by decide
theorem test_send_too_long :
    (nextOf (exec .send { stConn with regs := { stConn.regs with txLen := 0x1000#16 } })).map (regRead 0x010) =
      some 0x0C#32 := by decide
theorem test_receive_begins : (nextOf (exec .receive stConn)).map (regRead 0x00C) = some 0x47D#32 := by decide
theorem test_receive_not_connected : (nextOf (exec .receive st0)).map (regRead 0x010) = some 0x0B#32 := by decide
theorem test_transact_begins : (nextOf (exec .transact stConn)).map (regRead 0x00C) = some 0x52D#32 := by decide
theorem test_transact_listens : (nextOf (txAccept (stTx 0x5#4 9))).map (regRead 0x00C) = some 0x57D#32 := by decide
/-- The example of 42_engine.md R611. -/
theorem test_respond_echoes :
    (nextOf (exec (.respond 0x04#8) (stImage stConn frameA))).map (fun s => (regRead 0x00C s, s.tx.img)) =
      some (0x62D#32,
        [0x7E#8, 0x20#8, 0x01#8, 0x40#8, 0x04#8, 0x00#8, 0x00#8, 0xFF#8, 0x9B#8, 0x0D#8]) := by decide
/-- The example of 40_frame_codec.md R420. -/
theorem test_validate_A : (nextOf (exec .validate (stImage st0 frameA))).map (regRead 0x010) = some 0x00#32 := by decide
/-- 95 §1: RESULT 0x1003, a total-length error. -/
theorem test_validate_total_length :
    (nextOf (exec .validate (stImage st0 [0x7E#8, 0x0D#8]))).map (regRead 0x010) = some 0x1003#32 := by decide
/-- The example of 40_frame_codec.md R425. -/
theorem test_nop_keeps_result :
    (nextOf (exec .nop { st0 with result := { st0.result with code := 0x05#8 } })).map (regRead 0x010) = some 0x05#32 := by
  decide
theorem test_nop_rejected_while_busy : (nextOf (exec .nop stOpen)).map (regRead 0x014) = some 0x10#32 := by decide
/-- The step after `withFetchWord` runs the word, from reset. -/
theorem test_withFetchWord_runs : ∃ t, step (State.reset.withFetchWord 32 0x00000001) = .next t ∧
    t.status.phase = .opening ∧ t.status.op = 0x1#4 := ⟨_, rfl, rfl, rfl⟩

/-! ### Programs (70_reset_and_hazards.md R830) -/

/-- A POLL that nothing can end never ends; one that an environment line ends goes on (log 15). -/
theorem test_poll_waits :
    (match runProgram [.cmd .connect, .poll, .rd .result] st0 with | .polling s => s.status.busy | _ => false) = true ∧
    (match runProgram [.cmd .connect, .poll, .envTick 3, .envOpenOk, .rd .status] st0 with
      | .ended s => decide (s.busResp = .data 0x10C#32) | _ => false) = true := by decide
/-- A tick in a line waits for the internal steps (10_state.md R104). -/
theorem test_tick_waits_in_line :
    (nextOf (performAll [.tick] { stRx 0x4#4 with fifo := [0x55#8] })).map (fun s => (s.fifo, s.timers.frame)) =
      some ([], 1#24) := by decide

/-! ### States that meet the invariant -/

theorem test_inv_idle : st0.Inv := by constructor <;> decide
theorem test_inv_connected : stConn.Inv := by constructor <;> decide
theorem test_inv_opening : stOpen.Inv := by constructor <;> decide
theorem test_inv_auto : stAuto.Inv := by constructor <;> decide
theorem test_inv_tx : (stTx 0x3#4 9).Inv := by constructor <;> decide
theorem test_inv_rx : (stRx 0x4#4).Inv := by constructor <;> decide
theorem test_inv_collect : (stCollect 9).Inv := by constructor <;> decide

/-! ### Witnesses: for each statement with hypotheses, states and operands that meet them, clause by clause -/

/-- A TX phase in loopback at byte `i`. -/
def stLoop (op : BitVec 4) (i : Nat) : State := looped (stTx op i)

/-- A depth of `d`. -/
def deep (d : Nat) (s : State) : State := { s with params := { s.params with rxfifoDepth := d } }

theorem witness_EncodeThenDecode :
    Instr.nop.wf = true ∧ Instr.validate.wf = true ∧ (Instr.respond 0x00#8).wf = true ∧ (Instr.respond 0xFF#8).wf = true := by
  decide
theorem witness_IllegalCommandWords :
    wordLegal 0x00000008#32 = false ∧ wordLegal 0x0000000F#32 = false ∧ wordLegal 0x00000010#32 = false ∧
    wordLegal 0x80000000#32 = false ∧ wordLegal 0x00000105#32 = false ∧ st0.status.busy = false ∧
    stOpen.status.busy = true := by decide
theorem witness_StepRunsDecodedCommand :
    nextEvent (st0.withFetchWord 32 0x0000FF06) = cmdEvent 0x0000FF06#32 ∧
    decode 0x0000FF06#32 = .instr (.respond 0xFF#8) := by decide
theorem witness_TickWaitsForInternalSteps :
    (on (.rxByte 0x00#8) st0).inbox = .rxByte 0x00#8 :: [] ∧ Event.rxByte 0x00#8 ≠ .tick ∧
    (on .tick st0).inbox = .tick :: [] ∧ internalEnabled (on .tick st0) = false ∧
    internalEnabled { on .tick (stRx 0x4#4) with fifo := [0x7E#8] } = true ∧
    internalEnabled (on .tick (stLoop 0x3#4 0)) = true := by decide
theorem witness_EnablingConditions :
    nextEvent (on .txAccept (stTx 0x3#4 0)) = .txAccept ∧ nextEvent (on .lbEmit (stLoop 0x3#4 0)) = .lbEmit ∧
    nextEvent (on .rxConsume (stRx 0x4#4)) = .rxConsume ∧ nextEvent (on .openOk stOpen) = .openOk ∧
    nextEvent (on .openFail st0) = .openFail ∧ nextEvent (on .ioError stConn) = .ioError := by decide
theorem witness_CommandAcceptance :
    (stOpen.status.busy = true ∧ stOpen.status.phase = .opening) ∧
    ((stRx 0x4#4).status.busy = true ∧ (stRx 0x4#4).status.phase = .rx) ∧
    ((stTx 0x3#4 0).status.busy = true ∧
      ¬((0x00000002#32 : Word) = 0x00000002#32 ∧ ((stTx 0x3#4 0).status.phase = .opening ∨ (stTx 0x3#4 0).status.phase = .rx))) ∧
    (st0.status.busy = false ∧ (0x00000008#32 : Word) ≠ 0x00000000#32 ∧ wordLegal 0x00000008#32 = false) ∧
    (st0.status.busy = false ∧ (0x00000007#32 : Word) ≠ 0x00000000#32 ∧ wordLegal 0x00000007#32 = true) := by decide
theorem witness_NopCommand :
    st0.status.busy = false ∧ stOpen.status.busy = true ∧
    (0x80000000#32 : Word).extractLsb' 0 4 = 0x0#4 ∧ (0x80000000#32 : Word) ≠ 0x00000000#32 := by decide
theorem witness_ValidateCommand :
    st0.status.busy = false ∧ 4105 < ({ st0 with rxFlen := 4106#13 } : State).rxFlen.toNat ∧
    ({ st0 with rxFlen := 4105#13 } : State).rxFlen.toNat ≤ 4105 ∧ st0.rxFlen.toNat = 0 ∧
    (stImage st0 [0x7E#8]).rxFlen.toNat = 1 ∧ rxbuf (stImage st0 [0x7E#8]) 0 = 0x7E#8 ∧
    2 ≤ (stImage st0 [0x7E#8, 0x0D#8]).rxFlen.toNat ∧ rxbuf (stImage st0 [0x7E#8, 0x0D#8]) 1 = 0x0D#8 ∧
    (stImage st0 (0x7E#8 :: List.replicate 7 0x00#8 ++ [0x0D#8])).rxFlen.toNat = 9 ∧
    rxbuf (stImage st0 (0x7E#8 :: List.replicate 7 0x00#8 ++ [0x0D#8])) 8 = 0x0D#8 ∧
    10 ≤ (stImage st0 (frameA.set 1 0x21#8)).rxFlen.toNat ∧ rxbuf (stImage st0 (frameA.set 1 0x21#8)) 0 = 0x7E#8 ∧
    rxbuf (stImage st0 (frameA.set 1 0x21#8)) 9 = 0x0D#8 ∧
    rxbuf (stImage st0 (frameA.set 1 0x21#8)) 1 ≠ st0.regs.cfgVer := by decide
theorem witness_ConnectCommand :
    (stConn.status.busy = false ∧ stConn.status.link = .connected) ∧
    (stAuto.status.busy = false ∧ stAuto.status.link = .connecting) ∧
    (st0.status.busy = false ∧ st0.status.link = .disconnected) ∧
    (stOpen.status.busy = true ∧ stOpen.status.phase = .opening ∧ stOpen.status.link = .connecting) := by decide
theorem witness_DisconnectCommand :
    st0.status.busy = false ∧ stOpen.status.phase = .opening ∧ (stRx 0x5#4).status.phase = .rx ∧
    ((stTx 0x3#4 0).status.busy = true ∧ (stTx 0x3#4 0).status.phase = .tx) := by decide
theorem witness_DisconnectCommand_twice : ∃ t, stWait.status.busy = false ∧ exec .disconnect stWait = .next t :=
  ⟨_, rfl, rfl⟩
theorem witness_TransmitCommandsBegin :
    st0.status.busy = false ∧ st0.status.link ≠ .connected ∧ stConn.status.busy = false ∧ stConn.status.link = .connected ∧
    4095 < ({ stConn.regs with txLen := 4096#16 } : HostRegs).txLen.toNat ∧
    ({ stConn.regs with txLen := 4095#16 } : HostRegs).txLen.toNat ≤ 4095 := by decide
theorem witness_TransmitCommandsBegin_fixed : ∃ t, (stTx 0x3#4 0).status.busy = true ∧ (stTx 0x3#4 0).status.phase = .tx ∧
    hostWrite 0x0034#16 4 0xFFFFFFFF#32 (stTx 0x3#4 0) = .next t := ⟨_, rfl, rfl, rfl⟩
theorem witness_ReceivePhaseBegins :
    (st0.status.busy = false ∧ st0.status.link ≠ .connected) ∧ (stConn.status.busy = false ∧ stConn.status.link = .connected) ∧
    (stTx 0x5#4 9).status.op = 0x5#4 := by decide
theorem witness_FrameNopValidate :
    (∃ t, exec .nop st0 = .next t) ∧ (∃ t, exec .nop stOpen = .next t) ∧ ∃ t, exec .validate st0 = .next t :=
  ⟨⟨_, rfl⟩, ⟨_, rfl⟩, ⟨_, rfl⟩⟩
theorem witness_FrameConnectDisconnect :
    (∃ t, exec .connect st0 = .next t) ∧ (∃ t, exec .connect stConn = .next t) ∧ ∃ t, exec .disconnect (stRx 0x4#4) = .next t :=
  ⟨⟨_, rfl⟩, ⟨_, rfl⟩, ⟨_, rfl⟩⟩
theorem witness_FrameExchange :
    (∃ t, exec .send stConn = .next t) ∧ (∃ t, exec .transact stConn = .next t) ∧
    (∃ t, exec (.respond 0x04#8) stConn = .next t) ∧ ∃ t, exec .receive stConn = .next t :=
  ⟨⟨_, rfl⟩, ⟨_, rfl⟩, ⟨_, rfl⟩, ⟨_, rfl⟩⟩
theorem witness_SendTransmitsOneFrame :
    st0.status.busy = false ∧ st0.status.link ≠ .connected ∧
    (stConn.status.busy = false ∧ stConn.status.link = .connected ∧ stConn.regs.txLen.toNat ≤ 4095 ∧
      stConn.regs.loopback = false) ∧
    4096 ≤ ({ stConn.regs with txLen := 4096#16 } : HostRegs).txLen.toNat ∧
    ({ stConn.regs with txLen := 4095#16 } : HostRegs).txLen.toNat ≤ 4095 ∧
    ((looped (deep 1 stConn)).status.busy = false ∧ (looped (deep 1 stConn)).status.link = .connected ∧
      (looped (deep 1 stConn)).regs.loopback = true ∧
      (looped (deep 1 stConn)).fifo.length ≤ (looped (deep 1 stConn)).params.rxfifoDepth) := by decide
theorem witness_RespondEchoesTheHeader :
    (st0.status.busy = false ∧ st0.status.link ≠ .connected) ∧
    4095 < ({ stConn.regs with txLen := 0xFFFF#16 } : HostRegs).txLen.toNat ∧
    (stConn.status.busy = false ∧ stConn.status.link = .connected ∧ stConn.regs.txLen.toNat ≤ 4095 ∧
      stConn.regs.loopback = false) := by decide
theorem witness_ReceiveReconstructsAFrame :
    stConn.status.busy = false ∧ stConn.status.link = .connected ∧ [0x7E#8, 0x0D#8].length ≤ 4095 ∧
    (∀ b ∈ [0x55#8, 0x0D#8], b ≠ 0x7E#8) ∧
    ({ stConn with fifo := [0x55#8, 0x0D#8] ++ encodeFrame 0x20#8 0x01#8 0x40#8 0x00#8 [0x7E#8, 0x0D#8] ++ [0x7E#8] } : State).fifo =
      [0x55#8, 0x0D#8] ++ encodeFrame stConn.regs.cfgVer 0x01#8 0x40#8 0x00#8 [0x7E#8, 0x0D#8] ++ [0x7E#8] := by decide
theorem witness_SilentReceiveTimesOut :
    stConn.status.busy = false ∧ stConn.status.link = .connected ∧ stConn.fifo = [] := by decide
theorem witness_LoopbackSelfTest :
    (looped (deep 10 stConn)).status.busy = false ∧ (looped (deep 10 stConn)).regs.loopback = true ∧
    (looped (deep 10 stConn)).status.link = .connected ∧ (looped (deep 10 stConn)).fifo = [] ∧
    (looped (deep 10 stConn)).regs.txLen.toNat ≤ 4095 ∧
    10 + (looped (deep 10 stConn)).regs.txLen.toNat ≤ (looped (deep 10 stConn)).params.rxfifoDepth := by decide
theorem witness_OpenOutcome :
    ((on .openOk stOpen).status.link = .connecting ∧ nextEvent (on .openOk stOpen) = .openOk) ∧
    ((on .openFail stAuto).status.link = .connecting ∧ nextEvent (on .openFail stAuto) = .openFail) := by decide
theorem witness_ReconnectTick :
    (nextEvent (on .tick stWait) = .tick ∧ internalEnabled (on .tick stWait) = false ∧ (on .tick stWait).status.phase ≠ .rx) ∧
    (stWait.status.link = .disconnected ∧ stWait.status.armed = true) ∧
    max stWait.regs.reconnIvl.toNat 1 ≤ min ((999#16).toNat + 1) 0xFFFF ∧
    min ((998#16).toNat + 1) 0xFFFF < max stWait.regs.reconnIvl.toNat 1 ∧
    stAuto.status.link ≠ .disconnected ∧ st0.status.armed = false := by decide
theorem witness_LineFailure :
    nextEvent (on .ioError stConn) = .ioError ∧ stConn.status.link = .connected ∧ stConn.status.phase = .none ∧
    (stRx 0x4#4).status.link = .connected ∧ (stRx 0x4#4).status.phase = .rx ∧
    ((stTx 0x3#4 9).status.phase = .tx ∧ (stTx 0x3#4 9).status.op ≠ 0x4#4) ∧
    ((stTx 0x4#4 9).status.phase = .tx ∧ (stTx 0x4#4 9).status.op = 0x4#4) := by decide
theorem witness_LinkTransitions :
    (stConn.Inv ∧ stConn.status.link = .connected) ∧
    (∃ t, step (on .openOk stAuto) = .next t ∧ t.status.link ≠ (on .openOk stAuto).status.link) ∧
    ((on (cmdEvent 0x00000001#32) st0).Inv ∧ nextEvent (on (cmdEvent 0x00000001#32) st0) = cmdEvent 0x00000001#32) ∧
    ((on .openOk stAuto).Inv ∧ nextEvent (on .openOk stAuto) = .openOk) ∧
    ((on .ioError stConn).Inv ∧ nextEvent (on .ioError stConn) = .ioError) ∧
    (∃ t, (on .tick st0).status.link = .disconnected ∧ (on .tick st0).status.armed = false ∧
      step (on .tick st0) = .next t ∧ nextEvent (on .tick st0) ≠ cmdEvent 0x00000001#32) :=
  ⟨⟨test_inv_connected, by decide⟩, ⟨_, rfl, by decide⟩, ⟨by constructor <;> decide, by decide⟩,
    ⟨by constructor <;> decide, by decide⟩, ⟨by constructor <;> decide, by decide⟩, ⟨_, by decide, by decide, rfl, by decide⟩⟩
theorem witness_ResetStaysDisconnected :
    LaunchReset 4105 0x20#8 st0 ∧ cmdEvent 0x00000001#32 ∉ [cmdEvent 0x00000003#32, .tick, .reset] ∧
    ∃ t, runSteps [cmdEvent 0x00000003#32, .tick, .reset] 3 st0 = .next t := ⟨rfl, by decide, ⟨_, rfl⟩⟩
theorem witness_CommandCompletion :
    ∃ t, (on .openOk stOpen).status.busy = true ∧ step (on .openOk stOpen) = .next t ∧ t.status.busy = false ∧
      nextEvent (on .openOk stOpen) ≠ .reset := ⟨_, by decide, rfl, by decide, by decide⟩
theorem witness_TransmitSteps :
    (stTx 0x3#4 0).status.phase = .tx ∧ (stTx 0x3#4 0).tx.idx < (stTx 0x3#4 0).tx.img.length ∧
    (stTx 0x3#4 0).tx.idx + 1 ≠ (stTx 0x3#4 0).tx.img.length ∧ (stTx 0x3#4 9).tx.idx + 1 = (stTx 0x3#4 9).tx.img.length ∧
    (stTx 0x6#4 9).status.op = 0x6#4 ∧ (stTx 0x5#4 9).status.op = 0x5#4 ∧ (stTx 0x4#4 9).status.op = 0x4#4 ∧
    (nextEvent (on .txAccept (stTx 0x3#4 9)) = .txAccept ∧ (stTx 0x3#4 9).regs.loopback = false) ∧
    (nextEvent (on .lbEmit (stLoop 0x3#4 9)) = .lbEmit ∧ (stLoop 0x3#4 9).regs.loopback = true) ∧
    (nextEvent (on .tick (stTx 0x3#4 9)) = .tick ∧ (stTx 0x3#4 9).status.link = .connected) := by decide
theorem witness_ReceivedByte :
    nextEvent (on (.rxByte 0x7E#8) st0) = .rxByte 0x7E#8 ∧ st0.status.link ≠ .connected ∧
    (looped stConn).regs.loopback = true ∧
    ((deep 1 { stConn with fifo := [0x00#8] }).status.link = .connected ∧ stConn.regs.loopback = false ∧
      (deep 1 { stConn with fifo := [0x00#8] }).fifo.length = (deep 1 { stConn with fifo := [0x00#8] }).params.rxfifoDepth) ∧
    (deep 1 stConn).fifo.length ≠ (deep 1 stConn).params.rxfifoDepth := by decide
theorem witness_HuntForStart :
    nextEvent (on .rxConsume { stRx 0x4#4 with fifo := [0x7E#8] }) = .rxConsume ∧ (stRx 0x4#4).status.phase = .rx ∧
    (stRx 0x4#4).status.rxst = .hunt ∧ ({ stRx 0x4#4 with fifo := [0x7E#8] } : State).fifo = 0x7E#8 :: [] ∧
    (0x55#8 : Byte) ≠ 0x7E#8 := by decide
theorem witness_CollectTheFrame :
    nextEvent (on .rxConsume { stCollect 9 with fifo := [0x0D#8] }) = .rxConsume ∧ (stCollect 9).status.phase = .rx ∧
    (stCollect 9).status.rxst = .collect ∧ ({ stCollect 9 with fifo := [0x0D#8] } : State).fifo = 0x0D#8 :: [] ∧
    (stCollect 9).rx.idx < 4105 ∧ 10 ≤ (stCollect 9).rx.idx + 1 ∧ (stCollect 9).rx.idx + 1 = (stCollect 9).rx.need ∧
    (stCollect 6).rx.idx + 1 = 7 ∧ ¬ 10 ≤ (stCollect 6).rx.idx + 1 := by decide
theorem witness_FrameDone :
    (stRx 0x4#4).status.op = 0x4#4 ∧ (stRx 0x5#4).status.op = 0x5#4 ∧
    ({ stCollect 9 with fifo := [0x0D#8] } : State).Inv ∧ (stCollect 9).status.phase = .rx ∧
    ∃ t, rxConsume { stCollect 9 with fifo := [0x0D#8] } = .next t ∧ t.status.phase ≠ .rx :=
  ⟨rfl, rfl, by constructor <;> decide, rfl, ⟨_, rfl, by decide⟩⟩
theorem witness_ReceiveDoneOrAnswer :
    ((0x03#8 : Byte) = 0x01#8 ∨ (0x03#8 : Byte) = 0x02#8 ∨ (0x03#8 : Byte) = 0x03#8) ∧
    ({ stRx 0x4#4 with regs := { (stRx 0x4#4).regs with autoRtn := true } } : State).regs.autoRtn = true ∧
    ¬((0x00#8 : Byte) = 0x01#8 ∨ (0x00#8 : Byte) = 0x02#8 ∨ (0x00#8 : Byte) = 0x03#8) ∧
    (stRx 0x4#4).regs.autoRtn = false ∧ (stTx 0x4#4 9).status.op = 0x4#4 := by decide
theorem witness_ReceiveTick :
    nextEvent (on .tick (stRx 0x4#4)) = .tick ∧ internalEnabled (on .tick (stRx 0x4#4)) = false ∧
    (stRx 0x4#4).status.phase = .rx ∧ (stRx 0x4#4).status.link = .connected ∧ (stRx 0x4#4).status.op = 0x4#4 ∧
    (stRx 0x5#4).status.op = 0x5#4 ∧
    ((stRx 0x4#4).regs.tmoFrame ≠ 0#24 ∧ (stRx 0x4#4).regs.tmoFrame.toNat ≤ min ((9999#24).toNat + 1) 0xFFFFFF) ∧
    ¬(stRx 0x4#4).regs.tmoFrame.toNat ≤ min ((9998#24).toNat + 1) 0xFFFFFF ∧
    min ((98#16).toNat + 1) 0xFFFF < max (stRx 0x4#4).regs.tmoByte.toNat 1 ∧
    max (stRx 0x4#4).regs.tmoByte.toNat 1 ≤ min ((99#16).toNat + 1) 0xFFFF ∧
    (1#8 + 1#8).toNat < max (stRx 0x4#4).regs.retryLimit.toNat 1 ∧
    max (stRx 0x4#4).regs.retryLimit.toNat 1 ≤ (2#8 + 1#8).toNat := by decide
theorem witness_DeadlineBoundsTheRxPhase :
    (on .tick (stRx 0x4#4)).Inv ∧ (on .tick (stRx 0x4#4)).status.phase = .rx ∧
    (∃ t, step (on .tick (stRx 0x4#4)) = .next t ∧ t.status.phase = .rx) ∧ internalEnabled (on .tick (stRx 0x4#4)) = false ∧
    (stRx 0x4#4).regs.tmoFrame ≠ 0#24 ∧ nextEvent (on (.rxByte 0x7E#8) (stRx 0x4#4)) ≠ .tick ∧
    internalEnabled { on .tick (stRx 0x4#4) with fifo := [0x7E#8] } = true :=
  ⟨by constructor <;> decide, rfl, ⟨_, rfl, by decide⟩, by decide, by decide, by decide, by decide⟩
theorem witness_BusErrors :
    ¬((3 : Nat) = 1 ∨ (3 : Nat) = 2 ∨ (3 : Nat) = 4) ∧ (0x1001#16).toNat % 2 ≠ 0 ∧ ((0x005E#16).toNat < 0x0060 ∧ (2 : Nat) ≠ 4) ∧
    (0x0060 ≤ (0x0060#16).toNat ∧ (0x0FFF#16).toNat < 0x1000) ∧ 0x3009 ≤ (0x3009#16).toNat ∧
    (0x2000 ≤ (0x3008#16).toNat ∧ 0x3009 < (0x3008#16).toNat + 2) ∧
    ((0x3008#16).toNat % 1 = 0 ∧ ¬ 0x3009 < (0x3008#16).toNat + 1) ∧ ((0x005C#16).toNat % 4 = 0 ∧ (0x005C#16).toNat < 0x0060) := by
  decide
theorem witness_ReadsChangeNothing : nextEvent (on (.hostRead 0x3008#16 1) st0) = .hostRead 0x3008#16 1 := by decide
theorem witness_LittleEndianBuffers :
    ((0x1FFC#16).toNat % 4 = 0 ∧ 0x1000 ≤ (0x1FFC#16).toNat ∧ (0x1FFC#16).toNat + 4 ≤ 0x2000) ∧
    ((0x3008#16).toNat % 1 = 0 ∧ 0x2000 ≤ (0x3008#16).toNat ∧ (0x3008#16).toNat + 1 ≤ 0x3009) ∧
    ¬((0x1FFC#16).toNat < 0x2000 ∧ (stRx 0x4#4).status.phase = .tx) ∧
    ¬(0x2000 ≤ (0x3008#16).toNat ∧ (stTx 0x3#4 0).status.phase = .rx) := by decide
theorem witness_BufferLocks :
    ((stTx 0x3#4 0).status.phase = .tx ∧ (0x1FFE#16).toNat % 2 = 0 ∧ 0x1000 ≤ (0x1FFE#16).toNat ∧
      (0x1FFE#16).toNat + 2 ≤ 0x2000) ∧
    ((stRx 0x4#4).status.phase = .rx ∧ (0x2000#16).toNat % 4 = 0 ∧ 0x2000 ≤ (0x2000#16).toNat ∧
      (0x2000#16).toNat + 4 ≤ 0x3009) := by decide
theorem witness_RegisterReadBack :
    (0x005C#16).toNat % 4 = 0 ∧ (0x005C#16).toNat ≤ 0x005C ∧ (0x0000#16 : BitVec 16) ≠ 0x0008#16 ∧
    (0x0048#16 : BitVec 16) ≠ 0x0044#16 ∧ (0x0040#16 : BitVec 16) ≠ 0x0048#16 ∧ st0.status.phase ≠ .rx ∧
    (stTx 0x3#4 0).status.phase ≠ .rx := by decide
theorem witness_FlagsClearedOnlyByHost :
    nextEvent (on (.hostWrite 0x0014#16 4 0x00000001#32) st0) = .hostWrite 0x0014#16 4 0x00000001#32 ∧
    ∃ t, step (on (.hostWrite 0x0014#16 4 0x00000001#32) { st0 with intStatus := 0x03#6 }) = .next t ∧
      ({ st0 with intStatus := 0x03#6 } : State).intStatus.getLsbD 0 = true ∧ t.intStatus.getLsbD 0 = false :=
  ⟨by decide, ⟨_, rfl, by decide, by decide⟩⟩
theorem witness_ReceiveViews :
    (10 ≤ (stImage st0 frameA).rxFlen.toNat ∧ (stImage st0 frameA).rxFlen.toNat ≤ 4105) ∧
    ({ st0 with rxFlen := 9#13 } : State).rxFlen.toNat < 10 ∧ 4105 < ({ st0 with rxFlen := 4106#13 } : State).rxFlen.toNat ∧
    st0.fifo.length ≤ 65535 ∧ ({ stConn with fifo := [0x7E#8] } : State).fifo.length ≤ 65535 := by
  decide
/-- Idle after a command with opcode `op` has left RESULT as `r`. -/
def stEnded (op : BitVec 4) (r : ResultReg) : State :=
  { stWait with status := { stWait.status with op := op }, result := r }

theorem witness_StatusRegister : (stConn.Inv ∧ (stTx 0x3#4 9).Inv ∧ (stRx 0x4#4).Inv ∧ stOpen.Inv) ∧
    (∃ s : State, s.Inv ∧ s.result.rtnClass ≠ 0#4) ∧ (∃ s : State, s.Inv ∧ s.result.lenErrKind = true) ∧
    ∃ s : State, s.Inv ∧ s.result.autoRtnFail = true :=
  ⟨⟨test_inv_connected, test_inv_tx, test_inv_rx, test_inv_opening⟩,
    ⟨stEnded 0x5#4 ⟨0x07#8, 4#4, false, false⟩, by constructor <;> decide, by decide⟩,
    ⟨stEnded 0x7#4 ⟨0x03#8, 0#4, true, false⟩, by constructor <;> decide, by decide⟩,
    ⟨stEnded 0x4#4 ⟨0x02#8, 0#4, false, true⟩, by constructor <;> decide, by decide⟩⟩
theorem witness_TxbufOnlyTheHostWrites :
    ∃ t, step (on (.hostWrite 0x1FFF#16 1 0x00000001#32) { st0 with mem := [(0x1FFF, 0x02#8)] }) = .next t ∧
      byteAt t 0x1FFF ≠ byteAt (on (.hostWrite 0x1FFF#16 1 0x00000001#32) { st0 with mem := [(0x1FFF, 0x02#8)] }) 0x1FFF :=
  ⟨_, rfl, by decide⟩
theorem witness_LengthChecksum : (0 : Nat) ≤ 4095 ∧ (4095 : Nat) ≤ 4095 := by decide
theorem witness_EncodeLaws : ([] : List Byte).length ≤ 4095 ∧ (List.replicate 4095 0xFF#8).length ≤ 4095 :=
  ⟨by decide, by rw [List.length_replicate]⟩
theorem witness_ValidateAcceptsExactlyFrames : (validateImage frameB 0x20#8).1 = 0x00#8 := by decide
theorem witness_ChecksumSensitivity :
    validateImage frameB 0x20#8 = (0x00#8, false) ∧ 0 + 10 < frameB.length ∧ 7 < 8 := by decide
theorem witness_LengthFieldFlips :
    validateImage frameB 0x20#8 = (0x00#8, false) ∧ lchkNibble 0xE0#8 = lchk (lenId 0xE0#8 0x01#8).toNat := by decide
theorem witness_RtnClassTable :
    (0x06#8).toNat ≤ 0x06 ∧ (0x80 ≤ (0x80#8).toNat ∧ (0xEF#8).toNat ≤ 0xEF) ∧
    (0x07 ≤ (0x07#8).toNat ∧ (0x7F#8).toNat ≤ 0x7F) ∧ 0xF0 ≤ (0xF0#8).toNat := by decide
theorem witness_ResetStep : nextEvent (on .reset (stTx 0x3#4 5)) = .reset := by decide
theorem witness_LaunchStates :
    LaunchReset 4105 0x20#8 st0 ∧ (∃ s, LaunchConnected 4105 0x21#8 s) ∧
    (∃ t, Line.cmd .connect ≠ .poll ∧ runLine (.cmd .connect) st0 = .next t) ∧
    (∃ t, [Line.poll] ≠ [] ∧ runProgram [.poll] st0 = .ended t) ∧
    (internalEnabled st0 = false ∧ st0.status.busy = false) ∧ (internalEnabled stOpen = false ∧ stOpen.status.busy = true) ∧
    isEnv (.rd .result) = false :=
  ⟨rfl, ⟨_, 0x20#8, st0, rfl, rfl⟩, ⟨_, by decide, rfl⟩, ⟨_, by decide, rfl⟩, by decide, by decide, rfl⟩
theorem witness_StepKeepsInvariant : st0.Inv ∧ stConn.Inv ∧ (stCollect 9).Inv :=
  ⟨test_inv_idle, test_inv_connected, test_inv_collect⟩

end Sys2Proof.Tests
end

section
/-! PROOFS. The invariant of reachable states holds at reset and every step keeps it, without a fault or a refusal
(`Obligations.InvariantAtReset`, `Obligations.StepKeepsInvariant`).

`State.Inv` is cut into what holds in every phase (`State.Base`), what a finished RESULT shows (`ResultReg.Fits`) and one lemma
per phase that puts the invariant together from them. Each operation of a step then has one short lemma. -/

namespace Sys2Proof.Machine

variable {s t : State} {op : BitVec 4} {code : Byte}

/-! ### The parts of the invariant -/

/-- The part of the invariant that no phase and no result enters: link, FIFO, sequencing and buffer memory. -/
structure State.Base (s : State) : Prop where
  depthRange : 1 ≤ s.params.rxfifoDepth ∧ s.params.rxfifoDepth ≤ 65535
  connectedArmed : s.status.link = .connected → s.status.armed = true
  txRange : (s.tx.img = [] ∨ (minFrame ≤ s.tx.img.length ∧ s.tx.img.length ≤ maxFrame)) ∧ s.tx.idx ≤ s.tx.img.length
  rxRange : s.rx.idx ≤ rxSize ∧ minFrame ≤ s.rx.need ∧ s.rx.need ≤ maxFrame
  fifoRange : s.fifo.length ≤ s.params.rxfifoDepth
  fifoConnected : s.status.link ≠ .connected → s.fifo = []
  memWf : Memory.wf s.mem = true

/-- The fields of RESULT fit the command in STATUS.OP and each other (10_state.md R114, 60_exceptions.md R707). -/
structure ResultReg.Fits (r : ResultReg) (op : BitVec 4) : Prop where
  code : codeFitsOp op r.code = true
  rtnClass : r.rtnClass.toNat ≤ 8 ∧ (r.rtnClass ≠ 0#4 → r.code = codeDeviceError)
  lenErrKind : r.lenErrKind = true → r.code = codeLchksumMismatch
  autoRtnFail : r.autoRtnFail = true → answeredCode r.code

/-- While collecting, the stored bytes begin with SOI, and rx_need is settled from the seventh byte on (10_state.md R151). -/
def State.Collecting (s : State) : Prop :=
  1 ≤ s.rx.idx ∧ s.rx.idx < rxSize ∧ rxbuf s 0 = soi ∧
  (7 ≤ s.rx.idx → s.rx.idx < s.rx.need ∧ s.rx.need = minFrame + (lenId (rxbuf s 5) (rxbuf s 6)).toNat)

theorem State.Inv.base (h : s.Inv) : s.Base :=
  ⟨h.depthRange, h.connectedArmed, h.txRange, h.rxRange, h.fifoRange, h.fifoConnected, h.memWf⟩

theorem State.Inv.fits (h : s.Inv) : s.result.Fits s.status.op := ⟨h.codeFits, h.classFits, h.kindFits, h.failFits⟩

/-- `State.Base` reads seven parts of the state. -/
theorem State.Base.congr (h : s.Base) (hp : t.params = s.params := by simp)
    (hl : t.status.link = s.status.link := by simp) (ha : t.status.armed = s.status.armed := by simp)
    (ht : t.tx = s.tx := by simp) (hr : t.rx = s.rx := by simp) (hf : t.fifo = s.fifo := by simp)
    (hm : t.mem = s.mem := by simp) : t.Base := by
  obtain ⟨h1, h2, h3, h4, h5, h6, h7⟩ := h
  constructor <;> simp only [hp, hl, ha, ht, hr, hf, hm] <;> assumption

/-- `State.Inv` does not read the host's registers, the flags, RX_FLEN, three of the counters, the timers and the record of
the environment. -/
theorem State.Inv.congr (h : s.Inv) (hp : t.params = s.params := by simp) (hs : t.status = s.status := by simp)
    (hres : t.result = s.result := by simp) (hc : t.counters.attempt = s.counters.attempt := by simp)
    (hm : t.mem = s.mem := by simp) (he : t.epoch = s.epoch := by simp) (ht : t.tx = s.tx := by simp)
    (hr : t.rx = s.rx := by simp) (hf : t.fifo = s.fifo := by simp)
    (ha : t.autoRtnCode = s.autoRtnCode := by simp) : t.Inv := by
  have hb : ∀ i, rxbuf t i = rxbuf s i := fun i => byteAt_congr hm he _
  cases h
  constructor <;> simp only [hp, hs, hres, hc, hm, ht, hr, hf, ha, hb] <;> assumption

/-! ### Phases: what an invariant state is made of -/

theorem State.Inv.phase_of_idle (h : s.Inv) (hb : s.status.busy = false) : s.status.phase = .none := by
  by_contra hp
  simp [h.busyPhase.2 hp] at hb

theorem State.Inv.rxst_of_not_rx (h : s.Inv) (hp : s.status.phase ≠ .rx) : s.status.rxst = .idle := by
  by_contra hr
  exact hp (h.rxstPhase.1 hr)

theorem State.Inv.result_zero (h : s.Inv) (hp : s.status.phase ≠ .none) : s.result = ResultReg.zero :=
  h.busyResult (h.busyPhase.2 hp)

/-- The invariant of an idle state. -/
theorem State.Base.inv_idle (hb : s.Base) (hf : s.result.Fits s.status.op) (hbusy : s.status.busy = false)
    (hphase : s.status.phase = .none) (hrx : s.status.rxst = .idle) : s.Inv where
  __ := hb
  codeFits := hf.code
  classFits := hf.rtnClass
  kindFits := hf.lenErrKind
  failFits := hf.autoRtnFail
  busyPhase := by simp [hbusy, hphase]
  rxstPhase := by simp [hrx, hphase]
  movingConnected := by simp [hphase]
  openConnecting := by simp [hphase]
  openOp := by simp [hphase]
  txOp := by simp [hphase]
  rxOp := by simp [hphase]
  txPresents := by simp [hphase]
  collecting := by simp [hrx]
  attemptRange := by simp [hphase]
  autoRtnAnswers := by simp [hphase]
  busyResult := by simp [hbusy]

/-- The invariant of a state in its OPEN phase. -/
theorem State.Base.inv_opening (hb : s.Base) (hres : s.result = ResultReg.zero) (hbusy : s.status.busy = true)
    (hphase : s.status.phase = .opening) (hrx : s.status.rxst = .idle) (hlink : s.status.link = .connecting)
    (hop : s.status.op = opConnect) : s.Inv where
  __ := hb
  codeFits := by rw [hres, hop]; decide
  classFits := by rw [hres]; decide
  kindFits := by rw [hres]; decide
  failFits := by rw [hres]; decide
  busyPhase := by simp [hbusy, hphase]
  rxstPhase := by simp [hrx, hphase]
  movingConnected := by simp [hphase]
  openConnecting := fun _ => hlink
  openOp := fun _ => hop
  txOp := by simp [hphase]
  rxOp := by simp [hphase]
  txPresents := by simp [hphase]
  collecting := by simp [hrx]
  attemptRange := by simp [hphase]
  autoRtnAnswers := by simp [hphase]
  busyResult := fun _ => hres

/-- The invariant of a state in a TX phase. -/
theorem State.Base.inv_tx (hb : s.Base) (hres : s.result = ResultReg.zero) (hbusy : s.status.busy = true)
    (hphase : s.status.phase = .tx) (hrx : s.status.rxst = .idle) (hlink : s.status.link = .connected)
    (hop : s.status.op = opSend ∨ s.status.op = opReceive ∨ s.status.op = opTransact ∨ s.status.op = opRespond)
    (hidx : s.tx.idx < s.tx.img.length) (hauto : s.status.op = opReceive → answeredCode s.autoRtnCode) : s.Inv where
  __ := hb
  codeFits := by rw [hres]; rcases hop with h | h | h | h <;> rw [h] <;> decide
  classFits := by rw [hres]; decide
  kindFits := by rw [hres]; decide
  failFits := by rw [hres]; decide
  busyPhase := by simp [hbusy, hphase]
  rxstPhase := by simp [hrx, hphase]
  movingConnected := fun _ => hlink
  openConnecting := by simp [hphase]
  openOp := by simp [hphase]
  txOp := fun _ => hop
  rxOp := by simp [hphase]
  txPresents := fun _ => hidx
  collecting := by simp [hrx]
  attemptRange := by simp [hphase]
  autoRtnAnswers := fun _ => hauto
  busyResult := fun _ => hres

/-- What an RX phase keeps from byte to byte: the status but RXST, a RESULT of 0 and the attempts left. -/
structure State.Receiving (s : State) : Prop where
  result : s.result = ResultReg.zero
  busy : s.status.busy = true
  phase : s.status.phase = .rx
  link : s.status.link = .connected
  op : s.status.op = opReceive ∨ s.status.op = opTransact
  attempt : s.counters.attempt.toNat < 255

theorem State.Inv.receiving (h : s.Inv) (hp : s.status.phase = .rx) : s.Receiving :=
  ⟨h.result_zero (by simp [hp]), h.busyPhase.2 (by simp [hp]), hp, h.movingConnected (.inr hp), h.rxOp hp, h.attemptRange hp⟩

/-- The invariant of a state in an RX phase. -/
theorem State.Base.inv_rx (hb : s.Base) (hr : s.Receiving) (hrx : s.status.rxst ≠ .idle)
    (hcol : s.status.rxst = .collect → s.Collecting) : s.Inv where
  __ := hb
  codeFits := by rw [hr.result]; rcases hr.op with h | h <;> rw [h] <;> decide
  classFits := by rw [hr.result]; decide
  kindFits := by rw [hr.result]; decide
  failFits := by rw [hr.result]; decide
  busyPhase := by simp [hr.busy, hr.phase]
  rxstPhase := by simp [hrx, hr.phase]
  movingConnected := fun _ => hr.link
  openConnecting := by simp [hr.phase]
  openOp := by simp [hr.phase]
  txOp := by simp [hr.phase]
  rxOp := fun _ => hr.op
  txPresents := by simp [hr.phase]
  collecting := hcol
  attemptRange := fun _ => hr.attempt
  autoRtnAnswers := by simp [hr.phase]
  busyResult := fun _ => hr.result

/-! ### Reset -/

/-- The reset values meet the invariant for every depth in its range and every version (70_reset_and_hazards.md R801). -/
theorem State.inv_resetWith {p : Params} (hd : 1 ≤ p.rxfifoDepth ∧ p.rxfifoDepth ≤ 65535) : (State.resetWith p).Inv :=
  State.Base.inv_idle
    { depthRange := hd
      connectedArmed := by simp [State.resetWith]
      txRange := by simp [State.resetWith]
      rxRange := by simp [State.resetWith, rxSize, minFrame, maxFrame]
      fifoRange := by simp [State.resetWith]
      fifoConnected := fun _ => rfl
      memWf := rfl }
    { code := rfl
      rtnClass := by simp [State.resetWith]
      lenErrKind := by simp [State.resetWith]
      autoRtnFail := by simp [State.resetWith] }
    rfl rfl rfl

/-- RXFIFO_DEPTH is in its range (00_scope.md R10). -/
theorem Config.rxfifoDepth_range : 1 ≤ Config.rxfifoDepth ∧ Config.rxfifoDepth ≤ 65535 := by
  have := Config.rxfifoDepthPred.isLt
  unfold Config.rxfifoDepth
  omega

/-- Settles O59: the reset values meet the invariant for every depth in its range, and RXFIFO_DEPTH is in it. -/
theorem invariantAtReset : Obligations.InvariantAtReset := State.inv_resetWith Config.rxfifoDepth_range

/-! ### How a command ends -/

/-- A RESULT that holds a code alone. -/
theorem ResultReg.fits_code (h : codeFitsOp op code = true) : ({ ResultReg.zero with code := code } : ResultReg).Fits op where
  code := h
  rtnClass := by simp [ResultReg.zero]
  lenErrKind := by simp [ResultReg.zero]
  autoRtnFail := by simp [ResultReg.zero]

/-- RECEIVE can finish with every code that an automatic error response answers (60_exceptions.md R707). -/
theorem codeFitsOp_receive_of_answered (h : answeredCode code) : codeFitsOp opReceive code = true := by
  rcases h with rfl | rfl | rfl <;> decide

/-- `finish` leaves an invariant state when the finished RESULT fits (41_transport.md R520). -/
theorem State.Base.inv_finish (hb : s.Base) (hf : ({ s.result with code := code } : ResultReg).Fits s.status.op) :
    (finish code s).Inv :=
  State.Base.inv_idle hb.congr hf rfl rfl rfl

/-- The case of a command whose RESULT is still 0. -/
theorem State.Base.inv_finish_zero (hb : s.Base) (hres : s.result = ResultReg.zero)
    (hf : codeFitsOp s.status.op code = true) : (finish code s).Inv :=
  hb.inv_finish (hres ▸ ResultReg.fits_code hf)

/-! ### Answers that keep the invariant -/

/-- The step part answers a next state, and that state meets the invariant. -/
def AnswersInv (a : Answer) : Prop := ∃ t, a = .next t ∧ t.Inv

theorem answersInv_next (h : t.Inv) : AnswersInv (.next t) := ⟨t, rfl, h⟩

/-- The end of a timeout answers in every RX phase (41_transport.md R547). -/
theorem State.Base.timeoutFinish (hb : s.Base) (hres : s.result = ResultReg.zero)
    (hop : s.status.op = opReceive ∨ s.status.op = opTransact) : AnswersInv (timeoutFinish s) := by
  unfold Machine.timeoutFinish
  rcases hop with ho | ho
  · rw [if_pos ho]
    exact answersInv_next (hb.inv_finish_zero hres (by rw [ho]; decide))
  · rw [if_neg (by rw [ho]; decide), if_pos ho]
    exact answersInv_next (hb.inv_finish_zero hres (by rw [ho]; decide))

/-! ### Commands (41_transport.md R510 to R514) -/

/-- The base part survives acceptance. -/
theorem State.Base.acceptCommand (hb : s.Base) : (acceptCommand op s).Base := hb.congr

/-- An accepted command may finish at once with any code its opcode allows. -/
theorem State.Inv.finish_accepted (h : s.Inv) (hf : codeFitsOp op code = true) :
    (finish code (acceptCommand op s)).Inv :=
  h.base.acceptCommand.inv_finish_zero rfl hf

/-- A waiting CONNECT (41_transport.md R511). -/
theorem State.Base.inv_startOpen (hb : s.Base) (hres : s.result = ResultReg.zero) (hrx : s.status.rxst = .idle)
    (hlink : s.status.link = .connecting) (hop : s.status.op = opConnect) : (startOpen s).Inv :=
  State.Base.inv_opening hb.congr hres rfl rfl hrx hlink hop

/-- Leaving DISCONNECTED for CONNECTING keeps the base part: the FIFO is empty (41_transport.md R503, R511). -/
theorem State.Base.moveLink_connecting (hb : s.Base) (hl : s.status.link ≠ .connected) : (moveLink .connecting s).Base :=
  { hb with
    connectedArmed := by simp
    fifoConnected := fun _ => hb.fifoConnected hl }

theorem State.Inv.openLine (h : s.Inv) (hb : s.status.busy = false) : (openLine (acceptCommand opConnect s)).Inv := by
  have hrx : s.status.rxst = .idle := h.rxst_of_not_rx (by simp [h.phase_of_idle hb])
  unfold Machine.openLine
  split
  case _ => exact h.finish_accepted (by decide)
  case _ hl => exact h.base.acceptCommand.inv_startOpen rfl hrx hl rfl
  case _ hl =>
    have hmove := h.base.acceptCommand (op := opConnect) |>.moveLink_connecting (by rw [hl]; decide)
    exact State.Base.inv_startOpen hmove.congr rfl hrx rfl rfl

/-- Closing the line empties the FIFO and disarms, whatever the link was (41_transport.md R512). -/
theorem State.Base.disconnectLine (hb : s.Base) : (disconnectLine s).Base := by
  have hlink : (closeLine (Machine.acceptCommand opDisconnect s)).status.link ≠ .connected := by
    obtain ⟨hl, he⟩ | ⟨-, he⟩ := closeLine_cases (Machine.acceptCommand opDisconnect s) <;> rw [he]
    · rw [hl]; decide
    · simp
  exact
    { depthRange := by simpa [Machine.disconnectLine] using hb.depthRange
      connectedArmed := fun h => absurd h hlink
      txRange := by simpa [Machine.disconnectLine] using hb.txRange
      rxRange := by simpa [Machine.disconnectLine] using hb.rxRange
      fifoRange := Nat.zero_le _
      fifoConnected := fun _ => rfl
      memWf := by simpa [Machine.disconnectLine] using hb.memWf }

theorem disconnectLine_result (s : State) : (disconnectLine s).result = ResultReg.zero := by
  simp [disconnectLine]

theorem disconnectLine_op (s : State) : (disconnectLine s).status.op = opDisconnect := by
  unfold disconnectLine
  obtain ⟨-, he⟩ | ⟨-, he⟩ := closeLine_cases (acceptCommand opDisconnect s) <;> rw [he] <;> rfl

theorem State.Inv.finish_disconnectLine (h : s.Inv) (hf : codeFitsOp opDisconnect code = true) :
    (finish code (disconnectLine s)).Inv :=
  h.base.disconnectLine.inv_finish_zero (disconnectLine_result s) (by rwa [disconnectLine_op])

/-- A TX phase presents the first byte of a whole frame (41_transport.md R522). -/
theorem State.Base.inv_txBegin {adr c1 c2 : Byte} {n : Nat} (hb : s.Base) (hn : n ≤ maxLen)
    (hres : s.result = ResultReg.zero) (hrx : s.status.rxst = .idle) (hlink : s.status.link = .connected)
    (hop : s.status.op = opSend ∨ s.status.op = opReceive ∨ s.status.op = opTransact ∨ s.status.op = opRespond)
    (hauto : s.status.op = opReceive → answeredCode s.autoRtnCode) : (txBegin adr c1 c2 n s).Inv := by
  have hlen : (txBegin adr c1 c2 n s).tx.img.length = minFrame + n := by simp
  have hbase : (txBegin adr c1 c2 n s).Base :=
    { hb with txRange := ⟨.inr (by rw [hlen]; simp only [minFrame, maxFrame, maxLen] at *; omega), Nat.zero_le _⟩ }
  exact hbase.inv_tx hres rfl rfl hrx hlink hop (by rw [hlen]; simp [minFrame]) hauto

/-- The three transmitting commands, from an idle block (41_transport.md R513, 42_engine.md R610, R611). -/
theorem State.Inv.startTransmit {adr c1 c2 : Byte} (h : s.Inv) (hb : s.status.busy = false)
    (hop : op = opSend ∨ op = opTransact ∨ op = opRespond) : (startTransmit adr c1 c2 (acceptCommand op s)).Inv := by
  have hrx : s.status.rxst = .idle := h.rxst_of_not_rx (by simp [h.phase_of_idle hb])
  have hcode : codeFitsOp op codeNotConnected = true ∧ codeFitsOp op codeLengthOverflow = true ∧ op ≠ opReceive := by
    rcases hop with rfl | rfl | rfl <;> decide
  obtain ⟨hnc, hlo, hnr⟩ := hcode
  obtain ⟨-, he⟩ | ⟨-, -, he⟩ | ⟨hl, hn, he⟩ := startTransmit_cases adr c1 c2 (acceptCommand op s) <;> rw [he]
  · exact h.finish_accepted hnc
  · exact h.finish_accepted hlo
  · exact h.base.acceptCommand.inv_txBegin hn rfl hrx hl (by simp only [acceptCommand_status]; tauto)
      fun ho => absurd ho hnr

/-- An RX phase begins by hunting (41_transport.md R521). -/
theorem State.Base.inv_startRx (hb : s.Base) (hres : s.result = ResultReg.zero) (hbusy : s.status.busy = true)
    (hlink : s.status.link = .connected) (hop : s.status.op = opReceive ∨ s.status.op = opTransact) :
    (startRx s).Inv := by
  have hbase : (startRx s).Base := { hb with rxRange := ⟨Nat.zero_le _, hb.rxRange.2⟩ }
  exact hbase.inv_rx ⟨hres, hbusy, rfl, hlink, hop, by simp⟩ (by simp) (by simp)

theorem State.Inv.startReceive (h : s.Inv) : (startReceive (acceptCommand opReceive s)).Inv := by
  unfold Machine.startReceive
  split_ifs with hl
  · exact h.finish_accepted (by decide)
  · have hbase : (setBusy (acceptCommand opReceive s)).Base := h.base.congr
    exact hbase.inv_startRx rfl rfl (not_not.1 hl) (.inl rfl)

/-- What validation can answer: LENERR_KIND goes with LCHKSUM_MISMATCH (40_frame_codec.md R410). -/
theorem validateImage_cases (img : List Byte) (ver : Byte) :
    validateImage img ver = (codeOk, false) ∨ validateImage img ver = (codeMalformedMarker, false) ∨
    validateImage img ver = (codeVersionMismatch, false) ∨ validateImage img ver = (codeChecksumMismatch, false) ∨
    ∃ kind, validateImage img ver = (codeLchksumMismatch, kind) := by
  unfold validateImage
  split_ifs <;> simp

/-- A validation reported in RESULT fits VALIDATE (40_frame_codec.md R420). -/
theorem ResultReg.fits_validateImage (img : List Byte) (ver : Byte) :
    ({ ResultReg.zero with
      code := (validateImage img ver).1, lenErrKind := (validateImage img ver).2 } : ResultReg).Fits opValidate where
  code := by obtain h | h | h | h | ⟨_, h⟩ := validateImage_cases img ver <;> simp only [h] <;> decide
  rtnClass := by simp [ResultReg.zero]
  lenErrKind := by obtain h | h | h | h | ⟨_, h⟩ := validateImage_cases img ver <;> simp [h]
  autoRtnFail := by simp [ResultReg.zero]

theorem State.Inv.validateRxbuf (h : s.Inv) : (validateRxbuf (acceptCommand opValidate s)).Inv := by
  unfold Machine.validateRxbuf
  split_ifs
  · exact h.finish_accepted (by decide)
  · exact State.Base.inv_finish h.base.congr (ResultReg.fits_validateImage _ _)

/-- Every command keeps the invariant, in every phase (41_transport.md R510). -/
theorem State.Inv.exec (h : s.Inv) (i : Instr) : AnswersInv (exec i s) := by
  obtain ⟨-, -, he⟩ | ⟨-, -, -, he⟩ | ⟨hb, he⟩ := exec_next i s <;> rw [he] <;> apply answersInv_next
  · exact h.congr
  · exact h.finish_disconnectLine (by decide)
  · cases i with
    | nop => exact h
    | connect => exact h.openLine hb
    | disconnect => exact h.finish_disconnectLine (by decide)
    | send => exact h.startTransmit hb (.inl rfl)
    | receive => exact h.startReceive
    | transact => exact h.startTransmit hb (.inr (.inl rfl))
    | respond rtn => exact h.startTransmit hb (.inr (.inr rfl))
    | validate => exact h.validateRxbuf

theorem State.Inv.illegalCommand (h : s.Inv) : (illegalCommand op s).Inv := by
  unfold Machine.illegalCommand
  split_ifs
  · exact h.congr
  · exact h.finish_accepted (by simp [codeFitsOp])

/-! ### The host's accesses (20_memory.md R206) -/

/-- A register write changes the host's registers, the flags, RX_FLEN and the counters but CNT_ATTEMPT at most
(10_state.md R110 to R134). -/
theorem regWrite_eq (off : Nat) (v : Word) (s : State) : ∃ regs fl flen c,
    regWrite off v s = { s with regs := regs, intStatus := fl, rxFlen := flen, counters := c } ∧
    c.attempt = s.counters.attempt := by
  unfold regWrite
  split
  case h_12 => unfold writeRxFlen; split_ifs <;> exact ⟨_, _, _, _, rfl, rfl⟩
  all_goals exact ⟨_, _, _, _, rfl, rfl⟩

theorem State.Inv.regWrite (h : s.Inv) (off : Nat) (v : Word) : (regWrite off v s).Inv := by
  obtain ⟨regs, fl, flen, c, he, hc⟩ := regWrite_eq off v s
  rw [he]
  exact h.congr (hc := hc)

/-- Where an access of the TXBUF region lies (20_memory.md R201, R206). -/
theorem regionOf_txb_bounds {a n : Nat} (h : regionOf a n = .txb) : 0x1000 ≤ a ∧ a + n ≤ 0x2000 := by
  unfold regionOf at h
  split_ifs at h with h1 h2
  simp only [txBase] at h2
  omega

/-- Where an access of the RXBUF region lies (20_memory.md R201, R206). -/
theorem regionOf_rxb_bounds {a n : Nat} (h : regionOf a n = .rxb) : 0x2000 ≤ a ∧ a + n ≤ 0x3009 := by
  unfold regionOf at h
  split_ifs at h with h1 h2 h3
  simp only [rxBase] at h3
  omega

theorem inTxbuf_iff (a : Nat) : inTxbuf a = true ↔ 0x1000 ≤ a ∧ a < 0x2000 := decide_eq_true_iff

theorem inRxbuf_iff (a : Nat) : inRxbuf a = true ↔ 0x2000 ≤ a ∧ a < 0x3009 := decide_eq_true_iff

/-- New buffer memory keeps the invariant when it is canonical and a collected frame reads as before. -/
theorem State.Inv.setMem {m : Memory} (h : s.Inv) (hm : Memory.wf m = true)
    (hr : s.status.rxst = .collect → ∀ i < 7, rxbuf { s with mem := m } i = rxbuf s i) : ({ s with mem := m } : State).Inv :=
  { h with
    memWf := hm
    collecting := fun hc => by
      rw [hr hc 0 (by omega), hr hc 5 (by omega), hr hc 6 (by omega)]
      exact h.collecting hc }

/-- A host write to TXBUF leaves RXBUF as it was (20_memory.md R213). -/
theorem State.Inv.bufWrite_txb {a n : Nat} {v : Word} {locked : Bool} (h : s.Inv) (hr : regionOf a n = .txb) :
    (bufWrite locked a n v s).Inv := by
  obtain ⟨hlo, hhi⟩ := regionOf_txb_bounds hr
  cases locked with
  | true =>
    change (setFlags flagBufViol s).Inv
    exact h.congr
  | false =>
    change (putBytes n a v s).Inv
    have hwf : Memory.wf (putBytes n a v s).mem = true :=
      Memory.wf_putBytes n a v s (fun k hk => .inl ((inTxbuf_iff _).2 (by omega))) h.memWf
    rw [putBytes_eq]
    refine h.setMem hwf fun _ i _ => ?_
    rw [← putBytes_eq]
    exact byteAt_putBytes_outside n a v s (.inr (by simp only [rxBase]; omega))

/-- A host write to RXBUF is locked while a frame is collected (20_memory.md R213). -/
theorem State.Inv.bufWrite_rxb {a n : Nat} {v : Word} (h : s.Inv) (hr : regionOf a n = .rxb) :
    (bufWrite (decide (s.status.phase = .rx)) a n v s).Inv := by
  obtain ⟨hlo, hhi⟩ := regionOf_rxb_bounds hr
  by_cases hp : s.status.phase = .rx
  · simp only [bufWrite, hp, decide_true, if_true]
    exact h.congr
  · have hwf : Memory.wf (putBytes n a v s).mem = true :=
      Memory.wf_putBytes n a v s (fun k hk => .inr ((inRxbuf_iff _).2 (by omega))) h.memWf
    simp only [bufWrite, hp, decide_false, Bool.false_eq_true, if_false]
    rw [putBytes_eq]
    exact h.setMem hwf fun hc => by simp [h.rxst_of_not_rx hp] at hc

theorem State.Inv.cmdWrite (h : s.Inv) (w : Word) : AnswersInv (cmdWrite w s) := by
  obtain ⟨i, -, he⟩ | ⟨-, -, he⟩ := cmdWrite_cases w s <;> rw [he]
  · exact h.exec i
  · exact answersInv_next h.illegalCommand

theorem State.Inv.answer (h : s.Inv) (r : BusResp) : (answer r s).Inv := h.congr

/-- Every host write keeps the invariant (20_memory.md R206). -/
theorem State.Inv.hostWrite (h : s.Inv) (a : BitVec 16) (n : Nat) (v : Word) : AnswersInv (hostWrite a n v s) := by
  obtain ⟨-, he⟩ | ⟨-, -, -, he⟩ | ⟨-, -, -, he⟩ | ⟨-, hr, he⟩ | ⟨-, hr, he⟩ := hostWrite_cases a n v s <;> rw [he]
  · exact answersInv_next (h.answer _)
  · exact (h.answer _).cmdWrite v
  · exact answersInv_next ((h.answer _).regWrite _ v)
  · exact answersInv_next ((h.answer _).bufWrite_txb hr)
  · exact answersInv_next ((h.answer .done).bufWrite_rxb hr)

/-! ### Transmission (41_transport.md R523, R530 to R532) -/

/-- A received or looped-back byte keeps the invariant while the link is CONNECTED: the FIFO does not pass its depth. -/
theorem State.Inv.pushFifo (h : s.Inv) (hl : s.status.link = .connected) (b : Byte) : (pushFifo b s).Inv := by
  obtain ⟨-, he⟩ | ⟨hne, he⟩ := pushFifo_cases b s <;> rw [he]
  · exact h.congr
  · exact
      { h with
        fifoRange := by have := h.fifoRange; simp only [List.length_append, List.length_singleton]; omega
        fifoConnected := fun hn => absurd hl hn }

/-- A sent byte keeps the base part: tx_idx still counts within the frame. -/
theorem State.Base.countSent (hb : s.Base) (hi : s.tx.idx < s.tx.img.length) : (countSent s).Base :=
  { hb with txRange := ⟨hb.txRange.1, hi⟩ }

/-- The end of a TX phase finishes the command or begins the response's RX phase (41_transport.md R523). -/
theorem State.Inv.txDone_countSent (h : s.Inv) (hp : s.status.phase = .tx) : AnswersInv (txDone (countSent s)) := by
  have hbase : (countSent s).Base := h.base.countSent (h.txPresents hp)
  have hres : s.result = ResultReg.zero := h.result_zero (by simp [hp])
  have hop : (countSent s).status.op = s.status.op := rfl
  unfold txDone
  rcases h.txOp hp with ho | ho | ho | ho <;> rw [hop, ho]
  · exact answersInv_next (hbase.inv_finish_zero hres (by rw [hop, ho]; decide))
  · refine answersInv_next (hbase.inv_finish_zero hres ?_)
    rw [hop, ho]
    exact codeFitsOp_receive_of_answered (h.autoRtnAnswers hp ho)
  · exact answersInv_next (hbase.inv_startRx hres (h.busyPhase.2 (by simp [hp])) (h.movingConnected (.inl hp)) (.inr ho))
  · exact answersInv_next (hbase.inv_finish_zero hres (by rw [hop, ho]; decide))

/-- A sent byte keeps the invariant, the last one included (41_transport.md R531, R532). -/
theorem State.Inv.advanceTx (h : s.Inv) (hp : s.status.phase = .tx) : AnswersInv (advanceTx s) := by
  have hi := h.txPresents hp
  unfold Machine.advanceTx
  split_ifs with hlast
  · exact h.txDone_countSent hp
  · exact answersInv_next <| (h.base.countSent hi).inv_tx (h.result_zero (by simp [hp])) (h.busyPhase.2 (by simp [hp])) hp
      (h.rxst_of_not_rx (by simp [hp])) (h.movingConnected (.inl hp)) (h.txOp hp) (by simp only [countSent_tx]; omega)
      (h.autoRtnAnswers hp)

theorem State.Inv.txAccept (h : s.Inv) (hp : s.status.phase = .tx) : AnswersInv (txAccept s) := by
  unfold Machine.txAccept
  rw [List.getElem?_eq_getElem (h.txPresents hp)]
  exact State.Inv.advanceTx h.congr hp

theorem State.Inv.lbEmit (h : s.Inv) (hp : s.status.phase = .tx) : AnswersInv (lbEmit s) := by
  unfold Machine.lbEmit
  rw [List.getElem?_eq_getElem (h.txPresents hp)]
  exact (h.pushFifo (h.movingConnected (.inl hp)) _).advanceTx (by simpa using hp)

/-! ### The link (41_transport.md R501 to R504) -/

/-- Closing the line and emptying the FIFO keeps the base part, from every link state. -/
theorem State.Base.disconnected (hb : s.Base) (hp : t.params = s.params := by simp)
    (hl : t.status.link = .disconnected := by simp) (ht : t.tx = s.tx := by simp) (hr : t.rx = s.rx := by simp)
    (hf : t.fifo = [] := by simp) (hm : t.mem = s.mem := by simp) : t.Base where
  depthRange := hp ▸ hb.depthRange
  connectedArmed := by simp [hl]
  txRange := ht ▸ hb.txRange
  rxRange := hr ▸ hb.rxRange
  fifoRange := by simp [hf]
  fifoConnected := fun _ => hf
  memWf := hm ▸ hb.memWf

/-- With LINK CONNECTING no command runs but a waiting CONNECT. -/
theorem State.Inv.phase_of_connecting (h : s.Inv) (hl : s.status.link = .connecting) :
    s.status.phase = .none ∨ s.status.phase = .opening := by
  have hm := h.movingConnected
  rw [hl] at hm
  cases hp : s.status.phase <;> simp_all

theorem State.Inv.busy_of_idle (h : s.Inv) (hp : s.status.phase = .none) : s.status.busy = false := by
  by_contra hb
  exact h.busyPhase.1 (by simpa using hb) hp

/-- A waiting CONNECT may finish with the codes of CONNECT. -/
theorem State.Inv.codeFits_opening (h : s.Inv) (hp : s.status.phase = .opening) (hc : codeFitsOp opConnect code = true) :
    codeFitsOp s.status.op code = true := by
  rwa [h.openOp hp]

/-- A change of the link that leaves an idle block idle. -/
theorem State.Inv.idle_of_base (h : s.Inv) (hp : s.status.phase = .none) (hb : t.Base)
    (hres : t.result = s.result := by simp) (hop : t.status.op = s.status.op := by simp)
    (hbusy : t.status.busy = s.status.busy := by simp) (hphase : t.status.phase = s.status.phase := by simp)
    (hrx : t.status.rxst = s.status.rxst := by simp) : t.Inv :=
  hb.inv_idle (by rw [hres, hop]; exact h.fits) (hbusy.trans (h.busy_of_idle hp)) (hphase.trans hp)
    (hrx.trans (h.rxst_of_not_rx (by simp [hp])))

/-- An open that succeeds arms the link and ends a waiting CONNECT (41_transport.md R501). -/
theorem State.Inv.openOk (h : s.Inv) (hl : s.status.link = .connecting) : (openOk s).Inv := by
  have hbase : (setArmed true (clearFifo (moveLink .connected s))).Base :=
    { h.base with
      connectedArmed := fun _ => rfl
      fifoRange := Nat.zero_le _
      fifoConnected := fun _ => rfl }
  unfold Machine.openOk
  rcases h.phase_of_connecting hl with hp | hp
  · rw [if_neg (by simp [hp])]
    exact h.idle_of_base hp hbase
  · rw [if_pos hp]
    exact hbase.inv_finish_zero (h.result_zero (by simp [hp])) (h.codeFits_opening hp (by decide))

/-- An open that fails leaves the link DISCONNECTED and ends a waiting CONNECT (41_transport.md R502). -/
theorem State.Inv.openFail (h : s.Inv) (hl : s.status.link = .connecting) : (openFail s).Inv := by
  unfold Machine.openFail
  rcases h.phase_of_connecting hl with hp | hp
  · rw [if_neg (by simp [hp])]
    exact h.idle_of_base hp h.base.disconnected
  · rw [if_pos hp]
    exact State.Base.inv_finish_zero h.base.disconnected (h.result_zero (by simp [hp])) (h.codeFits_opening hp (by decide))

/-- A line that drops by itself keeps the base part (41_transport.md R504). -/
theorem State.Base.dropLine (hb : s.Base) : (dropLine s).Base := by
  unfold Machine.dropLine
  exact hb.disconnected

@[simp] theorem dropLine_result (s : State) : (dropLine s).result = s.result := rfl

@[simp] theorem dropLine_status (s : State) : (dropLine s).status = { s.status with link := .disconnected } := rfl

/-- A failure of a CONNECTED line ends a running command (41_transport.md R504). -/
theorem State.Inv.ioError (h : s.Inv) (hl : s.status.link = .connected) : AnswersInv (ioError s) := by
  have hb : (Machine.dropLine s).Base := h.base.dropLine
  unfold Machine.ioError
  split
  case _ hp =>
    have hres : s.result = ResultReg.zero := h.result_zero (by simp [hp])
    split_ifs with ho
    · have ha := h.autoRtnAnswers hp ho
      refine answersInv_next (State.Base.inv_finish hb.congr ?_)
      exact
        { code := by simpa [ho] using codeFitsOp_receive_of_answered ha
          rtnClass := by simp [hres, ResultReg.zero]
          lenErrKind := by simp [hres, ResultReg.zero]
          autoRtnFail := fun _ => ha }
    · refine answersInv_next (hb.inv_finish_zero hres ?_)
      rw [dropLine_status]
      rcases h.txOp hp with h1 | h1 | h1 | h1
      · rw [h1]; decide
      · exact absurd h1 ho
      · rw [h1]; decide
      · rw [h1]; decide
  case _ hp =>
    refine answersInv_next (hb.inv_finish_zero (h.result_zero (by simp [hp])) ?_)
    rw [dropLine_status]
    rcases h.rxOp hp with h1 | h1 <;> rw [h1] <;> decide
  case _ hp => exact answersInv_next (h.idle_of_base hp hb)
  case _ hp => simp [h.openConnecting hp] at hl

/-! ### The tick (41_transport.md R503, R545 to R547) -/

theorem tickReconn_of_linked (hl : s.status.link ≠ .disconnected) : tickReconn s = s := by
  unfold tickReconn
  rw [if_neg fun h => hl h.1]

theorem State.Inv.phase_of_disconnected (h : s.Inv) (hl : s.status.link = .disconnected) : s.status.phase = .none := by
  have hm := h.movingConnected
  have ho := h.openConnecting
  rw [hl] at hm ho
  cases hp : s.status.phase <;> simp_all

/-- An automatic reconnection leaves the block idle (41_transport.md R503). -/
theorem State.Inv.tickReconn (h : s.Inv) : (tickReconn s).Inv := by
  by_cases hl : s.status.link = .disconnected
  · have hp := h.phase_of_disconnected hl
    unfold Machine.tickReconn
    dsimp only
    split_ifs
    · have hmove := h.base.moveLink_connecting (by simp [hl])
      exact h.idle_of_base hp hmove.congr
    · exact h.congr
    · exact h
  · rwa [tickReconn_of_linked hl]

/-- The search for SOI resumes with nothing collected (41_transport.md R542, R545). -/
theorem State.Base.inv_resumeHunt (hb : s.Base) (hr : s.Receiving) : (resumeHunt s).Inv := by
  have hbase : (resumeHunt s).Base := { hb with rxRange := ⟨Nat.zero_le _, hb.rxRange.2⟩ }
  exact hbase.inv_rx { hr with } (by simp) (by simp)

/-- One more attempt keeps the invariant while the count stays below 255 (10_state.md R131). -/
theorem State.Inv.countAttempt (h : s.Inv) (ha : (s.counters.attempt + 1#8).toNat < 255) : (countAttempt s).Inv :=
  { h with attemptRange := fun _ => ha }

/-- An expired read timeout takes one attempt, and the last one finishes the command (41_transport.md R545). -/
theorem State.Inv.readTimeout (h : s.Inv) (hp : s.status.phase = .rx) : AnswersInv (readTimeout s) := by
  have hretry : ∀ r a : BitVec 8, ¬ max r.toNat 1 ≤ a.toNat → a.toNat < 255 := fun r a hn => by
    have := r.isLt
    omega
  have hs1 : ({ s with timers := { s.timers with byte := 0#16 } } : State).Inv := h.congr
  have hcd : (countDiscard { s with timers := { s.timers with byte := 0#16 } }).Inv := hs1.congr
  have hs2 := hcd.base.inv_resumeHunt (hcd.receiving hp)
  unfold Machine.readTimeout
  dsimp only
  split_ifs with hc hm hm
  · exact State.Base.timeoutFinish hs2.base.congr (hs2.receiving hp).result (hs2.rxOp hp)
  · exact answersInv_next (hs2.countAttempt (hretry _ _ hm))
  · exact State.Base.timeoutFinish hs1.base.congr (hs1.receiving hp).result (hs1.rxOp hp)
  · exact answersInv_next (hs1.countAttempt (hretry _ _ hm))

/-- A tick of an RX phase: the frame deadline, then the read timeout (41_transport.md R545, R546). -/
theorem State.Inv.tickRx (h : s.Inv) (hp : s.status.phase = .rx) : AnswersInv (tickRx s) := by
  unfold Machine.tickRx frameDeadline
  dsimp only
  split_ifs
  · exact State.Base.timeoutFinish h.base.congr (h.receiving hp).result (h.rxOp hp)
  · exact State.Base.timeoutFinish h.base.congr (h.receiving hp).result (h.rxOp hp)
  · exact State.Inv.readTimeout h.congr hp
  · exact answersInv_next h.congr

theorem State.Inv.tick (h : s.Inv) : AnswersInv (tick s) := by
  unfold Machine.tick
  split_ifs with hp
  · rw [tickReconn_of_linked (by simp [h.movingConnected (.inr hp)])]
    exact h.tickRx hp
  · exact answersInv_next h.tickReconn

/-! ### Reception (41_transport.md R540 to R544) -/

/-- Taking a byte out of the FIFO keeps the invariant. -/
theorem State.Inv.popFifo {b : Byte} {rest : List Byte} (h : s.Inv) (hf : s.fifo = b :: rest) : (popFifo rest s).Inv :=
  { h with
    fifoRange := by
      have := h.fifoRange
      simp only [hf, List.length_cons] at this
      simp only [popFifo_fifo, popFifo_params]
      omega
    fifoConnected := fun hl => absurd (h.fifoConnected hl) (by simp [hf]) }

/-- Writing an RXBUF byte keeps buffer memory canonical. -/
theorem Memory.wf_putRxbuf {i : Nat} (b : Byte) (h : Memory.wf s.mem = true) (hi : i < rxSize) :
    Memory.wf (memSet s.mem (rxBase + i) b) = true :=
  Memory.wf_memSet b (.inr ((inRxbuf_iff _).2 (by simp only [rxBase, rxSize] at *; omega))) h

/-- A hunted byte is dropped or starts a frame (41_transport.md R541). -/
theorem State.Inv.hunt (h : s.Inv) (hp : s.status.phase = .rx) (b : Byte) : (hunt b s).Inv := by
  unfold Machine.hunt
  split_ifs with hb
  · have hbase : (putByte rxBase b { s with
        rx := { s.rx with idx := 1 }, status := { s.status with rxst := .collect } }).Base :=
      { h.base with
        rxRange := ⟨by simp [rxSize], h.rxRange.2⟩
        memWf := Memory.wf_putRxbuf (i := 0) b h.memWf (by simp [rxSize]) }
    refine hbase.inv_rx { h.receiving hp with } (by simp) fun _ => ?_
    refine ⟨by simp, by simp [rxSize], ?_, by simp⟩
    rw [← hb]
    exact byteAt_putByte_same _ _ b
  · exact h.congr

/-! A collected byte is stored: what it leaves alone, and what the bytes stored so far say (41_transport.md R542). -/

@[simp] theorem storeByte_params (b : Byte) (s : State) : (storeByte b s).params = s.params := by
  unfold storeByte; dsimp only; split_ifs <;> rfl
@[simp] theorem storeByte_status (b : Byte) (s : State) : (storeByte b s).status = s.status := by
  unfold storeByte; dsimp only; split_ifs <;> rfl
@[simp] theorem storeByte_result (b : Byte) (s : State) : (storeByte b s).result = s.result := by
  unfold storeByte; dsimp only; split_ifs <;> rfl
@[simp] theorem storeByte_counters (b : Byte) (s : State) : (storeByte b s).counters = s.counters := by
  unfold storeByte; dsimp only; split_ifs <;> rfl
@[simp] theorem storeByte_mem (b : Byte) (s : State) :
    (storeByte b s).mem = memSet s.mem (rxBase + s.rx.idx) b := by
  unfold storeByte; dsimp only; split_ifs <;> rfl
@[simp] theorem storeByte_epoch (b : Byte) (s : State) : (storeByte b s).epoch = s.epoch := by
  unfold storeByte; dsimp only; split_ifs <;> rfl
@[simp] theorem storeByte_tx (b : Byte) (s : State) : (storeByte b s).tx = s.tx := by
  unfold storeByte; dsimp only; split_ifs <;> rfl
@[simp] theorem storeByte_rx_idx (b : Byte) (s : State) : (storeByte b s).rx.idx = s.rx.idx + 1 := by
  unfold storeByte; dsimp only; split_ifs <;> rfl
@[simp] theorem storeByte_fifo (b : Byte) (s : State) : (storeByte b s).fifo = s.fifo := by
  unfold storeByte; dsimp only; split_ifs <;> rfl
@[simp] theorem storeByte_timers (b : Byte) (s : State) : (storeByte b s).timers = s.timers := by
  unfold storeByte; dsimp only; split_ifs <;> rfl
@[simp] theorem storeByte_inbox (b : Byte) (s : State) : (storeByte b s).inbox = s.inbox := by
  unfold storeByte; dsimp only; split_ifs <;> rfl

/-- The stored byte is at rx_idx, and no other RXBUF byte changes. -/
theorem rxbuf_storeByte (b : Byte) (s : State) (i : Nat) :
    rxbuf (storeByte b s) i = if i = s.rx.idx then b else rxbuf s i := by
  have hput : rxbuf (storeByte b s) i = byteAt (putByte (rxBase + s.rx.idx) b s) (rxBase + i) :=
    byteAt_congr (by simp) (by simp) _
  rw [hput]
  split_ifs with hi
  · rw [hi, byteAt_putByte_same]
  · exact byteAt_putByte_other s b (by omega)

/-- What the bytes stored so far say: SOI first, and rx_need settled from the seventh on; the last byte of the frame may be
among them. -/
structure State.Stored (s : State) : Prop where
  soiFirst : rxbuf s 0 = soi
  started : 1 ≤ s.rx.idx
  within : s.rx.idx ≤ s.rx.need
  settled : 7 ≤ s.rx.idx → s.rx.need = minFrame + (lenId (rxbuf s 5) (rxbuf s 6)).toNat

/-- A collected byte keeps the base part and the form of the stored bytes. -/
theorem State.Inv.storeByte (h : s.Inv) (hc : s.status.rxst = .collect) (b : Byte) :
    (storeByte b s).Base ∧ (storeByte b s).Stored := by
  obtain ⟨hi1, hi2, hsoi, hset⟩ := h.collecting hc
  obtain ⟨need, he, h7, hn7⟩ := storeByte_eq b s
  have hneed : (Machine.storeByte b s).rx.need = need := by rw [he]
  have hlen := lenId_le (rxbuf (Machine.storeByte b s) 5) (rxbuf (Machine.storeByte b s) 6)
  obtain ⟨-, hlo, hhi⟩ := h.rxRange
  have hwithin : s.rx.idx + 1 ≤ need ∧ minFrame ≤ need ∧ need ≤ maxFrame := by
    simp only [minFrame, maxFrame, maxLen] at *
    by_cases h6 : s.rx.idx + 1 = 7
    · have := h7 h6
      omega
    · have := hn7 h6
      by_cases hge : 7 ≤ s.rx.idx
      · have := hset hge
        omega
      · omega
  constructor
  · exact
      { depthRange := by simpa using h.depthRange
        connectedArmed := by simpa using h.connectedArmed
        txRange := by simpa using h.txRange
        rxRange := ⟨by rw [storeByte_rx_idx]; exact hi2, hneed ▸ hwithin.2⟩
        fifoRange := by simpa using h.fifoRange
        fifoConnected := by simpa using h.fifoConnected
        memWf := by simpa using Memory.wf_putRxbuf b h.memWf hi2 }
  · exact
      { soiFirst := by rw [rxbuf_storeByte, if_neg (by omega)]; exact hsoi
        started := by simp
        within := by rw [storeByte_rx_idx, hneed]; exact hwithin.1
        settled := fun hge => by
          rw [storeByte_rx_idx] at hge
          rw [hneed]
          by_cases h6 : s.rx.idx + 1 = 7
          · exact h7 h6
          · rw [hn7 h6, rxbuf_storeByte, rxbuf_storeByte, if_neg (by omega), if_neg (by omega)]
            exact (hset (by omega)).2 }

/-- The validation of a frame that reconstruction has completed: every code but MALFORMED_MARKER, and no length error
(41_transport.md R543). -/
theorem validateImage_complete {img : List Byte} (ver : Byte) (hlen : minFrame ≤ img.length) (hsoi : at0 img 0 = soi)
    (heoi : at0 img (img.length - 1) = eoi)
    (hneed : img.length = minFrame + (lenId (at0 img 5) (at0 img 6)).toNat) :
    (validateImage img ver).2 = false ∧
    ((validateImage img ver).1 = codeOk ∨ answeredCode (validateImage img ver).1) := by
  have h1 : ¬(img.length = 0 ∨ at0 img 0 ≠ soi ∨ at0 img (img.length - 1) ≠ eoi) := by
    simp only [minFrame] at hlen
    simp only [hsoi, heoi, ne_eq, not_true_eq_false, or_false]
    omega
  unfold validateImage
  rw [if_neg h1, if_neg (not_lt.2 hlen)]
  split_ifs with _ _ h4
  · exact ⟨rfl, .inr (.inl rfl)⟩
  · exact ⟨rfl, .inr (.inr (.inr rfl))⟩
  · exact absurd hneed h4
  · exact ⟨rfl, .inr (.inr (.inl rfl))⟩
  · exact ⟨rfl, .inl rfl⟩

/-- A completed frame ends a RECEIVE, or begins its automatic error response (41_transport.md R544). -/
theorem State.Base.receiveDone (hb : s.Base) (hres : s.result = ResultReg.zero) (hrx : s.status.rxst = .idle)
    (hl : s.status.link = .connected) (ho : s.status.op = opReceive) (hcode : code = codeOk ∨ answeredCode code) :
    (receiveDone code s).Inv := by
  unfold Machine.receiveDone
  split_ifs with ha
  · unfold autoRtn
    have hbase : ({ s with autoRtnCode := code } : State).Base := hb.congr
    exact hbase.inv_txBegin (Nat.zero_le _) hres hrx hl (.inr (.inl ho)) fun _ => ha.1
  · refine hb.inv_finish_zero hres ?_
    rw [ho]
    rcases hcode with rfl | hc
    · decide
    · exact codeFitsOp_receive_of_answered hc

/-- RTN_CLASS is one of the classes 0 to 8 (42_engine.md R602). -/
theorem rtnClassOf_le (r : Byte) : (rtnClassOf r).toNat ≤ 8 := by
  unfold rtnClassOf
  split
  case h_8 => split_ifs <;> decide
  all_goals decide

/-- A completed frame ends a TRANSACT (42_engine.md R612). -/
theorem State.Base.transactDone (hb : s.Base) (hres : s.result = ResultReg.zero) (ho : s.status.op = opTransact)
    (hcode : code = codeOk ∨ answeredCode code) : (transactDone code s).Inv := by
  unfold Machine.transactDone
  dsimp only
  split_ifs with h1 h2
  · refine hb.inv_finish_zero hres ?_
    rw [ho]
    rcases hcode with rfl | rfl | rfl | rfl
    · exact absurd rfl h1
    all_goals decide
  · refine State.Base.inv_finish hb.congr ?_
    simp only [h2, hres, ho]
    exact
      { code := by decide
        rtnClass := by decide
        lenErrKind := by decide
        autoRtnFail := by decide }
  · refine State.Base.inv_finish hb.congr ?_
    simp only [hres, ho]
    exact
      { code := show codeFitsOp opTransact codeDeviceError = true by decide
        rtnClass := ⟨rtnClassOf_le _, fun _ => rfl⟩
        lenErrKind := by simp [ResultReg.zero]
        autoRtnFail := by simp [ResultReg.zero] }

/-- The step that completes a frame (41_transport.md R543). -/
theorem State.Base.frameDone (hb : s.Base) (hr : s.Receiving)
    (hv : (validateImage (rxImage s (rxFlenNat s)) s.regs.cfgVer).2 = false ∧
      ((validateImage (rxImage s (rxFlenNat s)) s.regs.cfgVer).1 = codeOk ∨
        answeredCode (validateImage (rxImage s (rxFlenNat s)) s.regs.cfgVer).1)) : AnswersInv (frameDone s) := by
  unfold Machine.frameDone
  dsimp only
  generalize validateImage (rxImage s (rxFlenNat s)) s.regs.cfgVer = v at hv
  obtain ⟨hkind, hcode⟩ := hv
  have hrec := recordFrame_eq v s
  have hb' : (recordFrame v s).Base := by rw [hrec]; exact hb.congr
  have hres : (recordFrame v s).result = ResultReg.zero := by simp only [hrec, hkind, hr.result]; rfl
  have hop : (recordFrame v s).status.op = s.status.op := by rw [hrec]
  rcases hr.op with ho | ho
  · rw [if_pos ho]
    exact answersInv_next (hb'.receiveDone hres (by rw [hrec]) (by rw [hrec]; exact hr.link) (hop.trans ho) hcode)
  · rw [if_neg (by rw [ho]; decide), if_pos ho]
    exact answersInv_next (hb'.transactDone hres (hop.trans ho) hcode)

/-- The validation of the stored bytes when they are a whole frame that ends with EOI. -/
theorem State.Stored.validateImage (hst : s.Stored) (hlo : minFrame ≤ s.rx.need) (hi : s.rx.idx = s.rx.need)
    (heoi : rxbuf s (s.rx.idx - 1) = eoi) (ver : Byte) :
    (validateImage (rxImage s s.rx.need) ver).2 = false ∧
    ((validateImage (rxImage s s.rx.need) ver).1 = codeOk ∨ answeredCode (validateImage (rxImage s s.rx.need) ver).1) := by
  have hneed := hst.settled (by simp only [minFrame] at hlo; omega)
  simp only [minFrame] at hlo
  apply validateImage_complete
  · rw [rxImage_length]; exact hlo
  · rw [at0_rxImage s (by omega)]; exact hst.soiFirst
  · rw [rxImage_length, at0_rxImage s (by omega), ← hi]; exact heoi
  · rw [rxImage_length, at0_rxImage s (by omega), at0_rxImage s (by omega)]; exact hneed

/-- The byte at the EOI position, stored (41_transport.md R542). -/
theorem State.Base.endOfFrame {b : Byte} (hb : s.Base) (hr : s.Receiving) (hst : s.Stored) (hi : s.rx.idx = s.rx.need)
    (hlast : rxbuf s (s.rx.idx - 1) = b) : AnswersInv (endOfFrame b s) := by
  unfold Machine.endOfFrame
  split_ifs with he
  · have hcd : (countDiscard s).Base := hb.congr
    exact answersInv_next (hcd.inv_resumeHunt { hr with })
  · obtain ⟨-, hlo, hhi⟩ := hb.rxRange
    have hflen : (BitVec.ofNat 13 s.rx.need).toNat = s.rx.need := by
      simp only [maxFrame] at hhi
      rw [BitVec.toNat_ofNat]
      omega
    have hu : ({ s with rxFlen := BitVec.ofNat 13 s.rx.need } : State).Base := { hb with }
    refine hu.frameDone { hr with } ?_
    rw [rxFlenNat, hflen]
    exact hst.validateImage hlo hi (hlast.trans (not_not.1 he)) _

/-- A collected byte keeps the invariant, whether or not it ends the frame (41_transport.md R542). -/
theorem State.Inv.collect (h : s.Inv) (hc : s.status.rxst = .collect) (b : Byte) : AnswersInv (collect b s) := by
  have hp : s.status.phase = .rx := h.rxstPhase.1 (by simp [hc])
  obtain ⟨hb, hst⟩ := h.storeByte hc b
  have hr : (Machine.storeByte b s).Receiving := by
    obtain ⟨h1, h2, h3, h4, h5, h6⟩ := h.receiving hp
    constructor <;> simpa
  have hlt : s.rx.idx < rxSize := (h.collecting hc).2.1
  unfold Machine.collect
  dsimp only
  rw [if_neg (not_le.2 hlt)]
  split_ifs with hend
  · exact hb.endOfFrame hr hst hend.2 (by rw [storeByte_rx_idx, Nat.add_sub_cancel, rxbuf_storeByte, if_pos rfl])
  · obtain ⟨-, hlo, hhi⟩ := hb.rxRange
    have hlt' : (Machine.storeByte b s).rx.idx < (Machine.storeByte b s).rx.need :=
      lt_of_le_of_ne hst.within fun he => hend ⟨he ▸ hlo, he⟩
    exact answersInv_next <| hb.inv_rx hr (by simp [hc]) fun _ =>
      ⟨hst.started, lt_of_lt_of_le hlt' hhi, hst.soiFirst, fun h7 => ⟨hlt', hst.settled h7⟩⟩

theorem State.Inv.rxConsume (h : s.Inv) (hp : s.status.phase = .rx) : AnswersInv (rxConsume s) := by
  unfold Machine.rxConsume
  split
  case _ => exact answersInv_next h
  case _ b rest hf =>
    have hpop := h.popFifo hf
    split
    case _ => exact answersInv_next (hpop.hunt hp b)
    case _ hc => exact hpop.collect hc b
    case _ hi => exact absurd hi (h.rxstPhase.2 hp)

/-! ### The step -/

theorem phase_of_rxConsumeEnabled (h : rxConsumeEnabled s = true) : s.status.phase = .rx := by
  simp only [rxConsumeEnabled, Bool.and_eq_true, decide_eq_true_eq] at h
  exact h.1

theorem phase_of_lbEmitEnabled (h : lbEmitEnabled s = true) : s.status.phase = .tx := by
  simp only [lbEmitEnabled, Bool.and_eq_true, decide_eq_true_eq] at h
  exact h.1

theorem phase_of_txAcceptEnabled (h : txAcceptEnabled s = true) : s.status.phase = .tx := by
  simp only [txAcceptEnabled, Bool.and_eq_true, decide_eq_true_eq] at h
  exact h.1

/-- The internal step is one of two (41_transport.md R500). -/
theorem internalStep_cases (h : internalEnabled s = true) :
    (rxConsumeEnabled s = true ∧ internalStep s = rxConsume s) ∨
    (lbEmitEnabled s = true ∧ internalStep s = lbEmit s) := by
  unfold internalStep
  split_ifs with hr
  · exact .inl ⟨hr, rfl⟩
  · exact .inr ⟨by simpa [internalEnabled, hr] using h, rfl⟩

theorem State.Inv.internalStep (h : s.Inv) (he : internalEnabled s = true) : AnswersInv (internalStep s) := by
  obtain ⟨hr, hs⟩ | ⟨hl, hs⟩ := internalStep_cases he <;> rw [hs]
  · exact h.rxConsume (phase_of_rxConsumeEnabled hr)
  · exact h.lbEmit (phase_of_lbEmitEnabled hl)

theorem State.Inv.takeEvent (h : s.Inv) : (takeEvent s).Inv := h.congr

theorem State.Inv.rxByte (h : s.Inv) (b : Byte) : (rxByte b s).Inv := by
  unfold Machine.rxByte
  split_ifs with hl
  · exact h
  · exact h.pushFifo (not_not.1 fun hn => hl (.inl hn)) b

/-- The reset step meets the invariant whatever the state was, as the parameters stay (70_reset_and_hazards.md R800). -/
theorem State.Inv.resetStep (h : s.Inv) : (resetStep s).Inv := by
  have hr := State.inv_resetWith h.depthRange
  exact State.Base.inv_idle { hr.base with } hr.fits rfl rfl rfl

/-- Settles O60: each thing a step can do answers a next state and keeps the invariant. -/
theorem stepKeepsInvariant : Obligations.StepKeepsInvariant := by
  intro s h
  have ht := h.takeEvent
  change AnswersInv (step s)
  obtain ⟨-, he, hs⟩ | ⟨a, n, -, hs⟩ | ⟨a, n, v, -, hs⟩ | ⟨b, -, hs⟩ | ⟨he, hs⟩ | ⟨hl, hs⟩ | ⟨hl, hs⟩ | ⟨hl, hs⟩ |
    ⟨-, -, hs⟩ | ⟨he, hs⟩ | ⟨he, hs⟩ | ⟨-, hs⟩ | hs := step_cases s <;> rw [hs]
  · exact h.internalStep he
  · exact answersInv_next (ht.answer _)
  · exact ht.hostWrite a n v
  · exact answersInv_next (ht.rxByte b)
  · exact ht.txAccept (by simpa using phase_of_txAcceptEnabled he)
  · exact answersInv_next (ht.openOk (by simpa using hl))
  · exact answersInv_next (ht.openFail (by simpa using hl))
  · exact ht.ioError (by simpa using hl)
  · exact ht.tick
  · exact ht.rxConsume (by simpa using phase_of_rxConsumeEnabled he)
  · exact ht.lbEmit (by simpa using phase_of_lbEmitEnabled he)
  · exact answersInv_next ht.resetStep
  · exact answersInv_next ht

end Sys2Proof.Machine
end

section
/-! PROOFS. What a step leaves alone: the choices that wait, TXBUF and frame_timer (`Obligations.StepRunsDecodedCommand`,
`Obligations.TickWaitsForInternalSteps`, `Obligations.TxbufOnlyTheHostWrites`, `Obligations.DeadlineBoundsTheRxPhase`). -/

namespace Sys2Proof.Machine

variable {s t : State}

/-! ### The next choice -/

/-- Settles O6: a CMD write is no tick, so it is performed, and its word decodes to the instruction that runs. -/
theorem stepRunsDecodedCommand : Obligations.StepRunsDecodedCommand := by
  refine ⟨fun s w i hn hd => ?_, fun s nbits w => ⟨rfl, rfl⟩⟩
  have hstep : step s = cmdWrite w (answer .done (takeEvent s)) := by
    rw [step_perform (.inl (by rw [hn]; simp [cmdEvent])), hn, perform_cmdEvent]
  rw [hstep]
  unfold cmdWrite
  rw [hd]
  rfl

/-! ### What the receive path leaves alone (41_transport.md R540 to R544) -/

/-- Consuming a received byte touches neither the choices that wait, nor frame_timer, nor a byte below RXBUF. -/
structure ReceiveKeeps (s t : State) : Prop where
  inbox : t.inbox = s.inbox
  frameTimer : t.timers.frame = s.timers.frame
  below : ∀ a < rxBase, byteAt t a = byteAt s a

theorem ReceiveKeeps.trans {u : State} (h1 : ReceiveKeeps s t) (h2 : ReceiveKeeps t u) : ReceiveKeeps s u :=
  ⟨h2.inbox.trans h1.inbox, h2.frameTimer.trans h1.frameTimer, fun a ha => (h2.below a ha).trans (h1.below a ha)⟩

theorem ReceiveKeeps.after {u : State} (h2 : ReceiveKeeps t u) (h1 : ReceiveKeeps s t) : ReceiveKeeps s u := h1.trans h2

/-- Where buffer memory stays as it was, so do the bytes. -/
theorem ReceiveKeeps.of_sameMem (hi : t.inbox = s.inbox := by simp) (hf : t.timers.frame = s.timers.frame := by simp)
    (hm : t.mem = s.mem := by simp) (he : t.epoch = s.epoch := by simp) : ReceiveKeeps s t :=
  ⟨hi, hf, fun a _ => byteAt_congr hm he a⟩

theorem receiveKeeps_receiveDone (code : Byte) (s : State) : ReceiveKeeps s (receiveDone code s) := by
  unfold receiveDone autoRtn
  split_ifs <;> exact .of_sameMem

theorem receiveKeeps_transactDone (code : Byte) (s : State) : ReceiveKeeps s (transactDone code s) := by
  unfold transactDone
  dsimp only
  split_ifs <;> exact .of_sameMem

theorem receiveKeeps_recordFrame (v : Byte × Bool) (s : State) : ReceiveKeeps s (recordFrame v s) := by
  rw [recordFrame_eq]
  exact .of_sameMem rfl rfl rfl rfl

theorem receiveKeeps_frameDone (h : frameDone s = .next t) : ReceiveKeeps s t := by
  obtain ⟨-, rfl⟩ | ⟨-, rfl⟩ := frameDone_next h
  · exact (receiveKeeps_recordFrame _ s).trans (receiveKeeps_receiveDone _ _)
  · exact (receiveKeeps_recordFrame _ s).trans (receiveKeeps_transactDone _ _)

theorem receiveKeeps_endOfFrame {b : Byte} (h : endOfFrame b s = .next t) : ReceiveKeeps s t := by
  obtain ⟨-, rfl⟩ | ⟨-, hd⟩ := endOfFrame_next h
  · exact .of_sameMem
  · exact (receiveKeeps_frameDone hd).after .of_sameMem

theorem receiveKeeps_putByte {a : Nat} (b : Byte) (s : State) (ha : rxBase ≤ a) : ReceiveKeeps s (putByte a b s) :=
  ⟨rfl, rfl, fun _ hx => byteAt_putByte_other s b (by omega)⟩

theorem receiveKeeps_storeByte (b : Byte) (s : State) : ReceiveKeeps s (storeByte b s) :=
  (receiveKeeps_putByte b s (Nat.le_add_right rxBase s.rx.idx)).trans .of_sameMem

theorem receiveKeeps_collect {b : Byte} (h : collect b s = .next t) : ReceiveKeeps s t := by
  obtain ⟨-, ⟨-, he⟩ | ⟨-, rfl⟩⟩ := collect_next h
  · exact (receiveKeeps_storeByte b s).trans (receiveKeeps_endOfFrame he)
  · exact receiveKeeps_storeByte b s

theorem receiveKeeps_hunt (b : Byte) (s : State) : ReceiveKeeps s (hunt b s) := by
  unfold hunt
  split_ifs
  · exact (receiveKeeps_putByte b _ le_rfl).after .of_sameMem
  · exact .of_sameMem

theorem receiveKeeps_rxConsume (h : rxConsume s = .next t) : ReceiveKeeps s t := by
  obtain ⟨-, rfl⟩ | ⟨b, rest, -, ⟨-, rfl⟩ | ⟨-, hc⟩⟩ := rxConsume_next h
  · exact .of_sameMem rfl rfl rfl rfl
  · exact (receiveKeeps_hunt b (popFifo rest s)).after .of_sameMem
  · exact (receiveKeeps_collect hc).after .of_sameMem

/-! ### What the transmit path leaves alone (41_transport.md R523, R531, R532) -/

/-- A sent byte touches neither the choices that wait nor buffer memory. -/
theorem advanceTx_frame (h : advanceTx s = .next t) : t.inbox = s.inbox ∧ t.mem = s.mem ∧ t.epoch = s.epoch := by
  obtain ⟨-, hd⟩ | ⟨-, rfl⟩ := advanceTx_next h
  · obtain ⟨-, rfl⟩ | ⟨-, rfl⟩ | ⟨-, rfl⟩ := txDone_next hd <;> simp
  · simp

theorem lbEmit_frame (h : lbEmit s = .next t) : t.inbox = s.inbox ∧ t.mem = s.mem ∧ t.epoch = s.epoch := by
  obtain ⟨b, -, ha⟩ := lbEmit_next h
  simpa using advanceTx_frame ha

theorem txAccept_frame (h : txAccept s = .next t) : t.inbox = s.inbox ∧ t.mem = s.mem ∧ t.epoch = s.epoch := by
  obtain ⟨b, -, ha⟩ := txAccept_next h
  simpa using advanceTx_frame ha

/-- An internal step leaves the choices that wait alone. -/
theorem internalStep_inbox (he : internalEnabled s = true) (h : internalStep s = .next t) : t.inbox = s.inbox := by
  obtain ⟨-, hs⟩ | ⟨-, hs⟩ := internalStep_cases he <;> rw [hs] at h
  · exact (receiveKeeps_rxConsume h).inbox
  · exact (lbEmit_frame h).1

/-- Settles O7: `step` performs the next choice unless it is a tick that the internal step holds up, and no internal step
touches the inbox. -/
theorem tickWaitsForInternalSteps : Obligations.TickWaitsForInternalSteps := by
  intro s es e hi
  obtain ⟨hne, htake⟩ := nextEvent_cons hi
  refine ⟨fun hk => ?_, fun hk hn => ?_, fun hk he => ?_⟩
  · rw [step_perform (.inl (by rwa [hne])), hne, htake]
  · rw [step_perform (.inr hn), hne, htake, hk]
    rfl
  · have hstep := step_internal (hne.trans hk) he
    rw [hstep]
    refine ⟨?_, fun t ht => (internalStep_inbox he ht).trans hi⟩
    obtain ⟨hr, hs⟩ | ⟨hl, hs⟩ := internalStep_cases he
    · simp only [rxConsumeEnabled, Bool.and_eq_true, decide_eq_true_eq, Bool.not_eq_true', List.isEmpty_eq_false_iff] at hr
      exact .inl ⟨hr.1, hr.2, hs⟩
    · simp only [lbEmitEnabled, Bool.and_eq_true, decide_eq_true_eq] at hl
      exact .inr ⟨hl.1, hl.2, hs⟩

/-! ### Buffer memory (10_state.md R140) -/

theorem openLine_bytes (s : State) : (openLine s).mem = s.mem ∧ (openLine s).epoch = s.epoch := by
  unfold openLine
  split <;> simp

theorem disconnectLine_bytes (s : State) : (disconnectLine s).mem = s.mem ∧ (disconnectLine s).epoch = s.epoch := by
  simp [disconnectLine]

theorem startTransmit_bytes (adr c1 c2 : Byte) (s : State) :
    (startTransmit adr c1 c2 s).mem = s.mem ∧ (startTransmit adr c1 c2 s).epoch = s.epoch := by
  obtain ⟨-, he⟩ | ⟨-, -, he⟩ | ⟨-, -, he⟩ := startTransmit_cases adr c1 c2 s <;> rw [he] <;> simp

theorem startReceive_bytes (s : State) : (startReceive s).mem = s.mem ∧ (startReceive s).epoch = s.epoch := by
  unfold startReceive
  split_ifs <;> simp

theorem validateRxbuf_bytes (s : State) : (validateRxbuf s).mem = s.mem ∧ (validateRxbuf s).epoch = s.epoch := by
  unfold validateRxbuf
  split_ifs <;> simp

/-- No command writes a buffer (41_transport.md R510). -/
theorem exec_bytes {i : Instr} (h : exec i s = .next t) : t.mem = s.mem ∧ t.epoch = s.epoch := by
  obtain ⟨-, -, he⟩ | ⟨-, -, -, he⟩ | ⟨-, he⟩ := exec_next i s <;> rw [he] at h <;> cases h
  · exact ⟨rfl, rfl⟩
  · exact disconnectLine_bytes s
  · cases i with
    | nop => exact ⟨rfl, rfl⟩
    | connect => exact openLine_bytes _
    | disconnect => exact disconnectLine_bytes s
    | send => exact startTransmit_bytes _ _ _ _
    | receive => exact startReceive_bytes _
    | transact => exact startTransmit_bytes _ _ _ _
    | respond rtn => exact startTransmit_bytes _ _ _ _
    | validate => exact validateRxbuf_bytes _

theorem illegalCommand_bytes (op : BitVec 4) (s : State) :
    (illegalCommand op s).mem = s.mem ∧ (illegalCommand op s).epoch = s.epoch := by
  unfold illegalCommand
  split_ifs <;> simp

theorem cmdWrite_bytes {w : Word} (h : cmdWrite w s = .next t) : t.mem = s.mem ∧ t.epoch = s.epoch := by
  obtain ⟨i, -, he⟩ | ⟨-, -, he⟩ := cmdWrite_cases w s <;> rw [he] at h
  · exact exec_bytes h
  · cases h
    exact illegalCommand_bytes _ s

theorem rxByte_bytes (b : Byte) (s : State) : (rxByte b s).mem = s.mem ∧ (rxByte b s).epoch = s.epoch := by
  unfold rxByte
  split_ifs <;> simp

theorem openOk_bytes (s : State) : (openOk s).mem = s.mem ∧ (openOk s).epoch = s.epoch := by
  unfold openOk
  dsimp only
  split_ifs <;> simp

theorem openFail_bytes (s : State) : (openFail s).mem = s.mem ∧ (openFail s).epoch = s.epoch := by
  unfold openFail
  dsimp only
  split_ifs <;> simp

theorem ioError_bytes (h : ioError s = .next t) : t.mem = s.mem ∧ t.epoch = s.epoch := by
  obtain ⟨-, -, rfl⟩ | ⟨-, -, rfl⟩ | ⟨-, rfl⟩ | ⟨-, rfl⟩ := ioError_next h <;> simp [dropLine]

theorem timeoutFinish_frame (h : timeoutFinish s = .next t) :
    t.mem = s.mem ∧ t.epoch = s.epoch ∧ t.timers = s.timers ∧ t.status.phase = .none := by
  obtain ⟨-, rfl⟩ | ⟨-, rfl⟩ := timeoutFinish_next h <;> simp

/-- A read timeout touches byte_timer alone of these (41_transport.md R545). -/
theorem readTimeout_frame (h : readTimeout s = .next t) :
    t.mem = s.mem ∧ t.epoch = s.epoch ∧ t.timers.frame = s.timers.frame := by
  unfold readTimeout at h
  dsimp only at h
  split_ifs at h
  · have := timeoutFinish_frame h
    simp_all
  · cases h; simp
  · have := timeoutFinish_frame h
    simp_all
  · cases h; simp

/-- A tick of an RX phase moves frame_timer on by one, and the phase goes on only before the frame deadline (10_state.md R153,
41_transport.md R545, R546). -/
theorem tickRx_frame (h : tickRx s = .next t) :
    t.mem = s.mem ∧ t.epoch = s.epoch ∧ t.timers.frame = satInc s.timers.frame ∧
    (t.status.phase = .rx → s.regs.tmoFrame ≠ 0#24 → (satInc s.timers.frame).toNat < s.regs.tmoFrame.toNat) := by
  unfold tickRx frameDeadline at h
  dsimp only at h
  split_ifs at h with hd hc hr
  · obtain ⟨h1, h2, h3, h4⟩ := timeoutFinish_frame h
    exact ⟨h1, h2, by rw [h3]; rfl, fun hp => by simp [h4] at hp⟩
  · obtain ⟨h1, h2, h3, h4⟩ := timeoutFinish_frame h
    exact ⟨h1, h2, by rw [h3], fun hp => by simp [h4] at hp⟩
  · obtain ⟨h1, h2, h3⟩ := readTimeout_frame h
    exact ⟨h1, h2, h3, fun _ hn => not_le.1 fun hle => hd ⟨hn, hle⟩⟩
  · cases h
    exact ⟨rfl, rfl, rfl, fun _ hn => not_le.1 fun hle => hd ⟨hn, hle⟩⟩

theorem tickReconn_bytes (s : State) : (tickReconn s).mem = s.mem ∧ (tickReconn s).epoch = s.epoch := by
  unfold tickReconn
  dsimp only
  split_ifs <;> simp

theorem tick_bytes (h : tick s = .next t) : t.mem = s.mem ∧ t.epoch = s.epoch := by
  unfold tick at h
  split_ifs at h
  · obtain ⟨h1, h2, -⟩ := tickRx_frame h
    rw [h1, h2]
    exact tickReconn_bytes s
  · cases h
    exact tickReconn_bytes s

/-- A host write touches a buffer byte only where it covers it and the buffer is unlocked (20_memory.md R206, R213). -/
theorem hostWrite_txbuf {b : BitVec 16} {n a : Nat} {v : Word} (ha : a < 0x2000) (h : hostWrite b n v s = .next t) :
    byteAt t a = byteAt s a ∨ (b.toNat ≤ a ∧ a < b.toNat + n ∧ s.status.phase ≠ .tx) := by
  obtain ⟨-, he⟩ | ⟨-, -, -, he⟩ | ⟨-, -, -, he⟩ | ⟨-, -, he⟩ | ⟨-, hr, he⟩ := hostWrite_cases b n v s <;> rw [he] at h
  · cases h
    exact .inl rfl
  · obtain ⟨hm, hep⟩ := cmdWrite_bytes h
    exact .inl (byteAt_congr hm hep a)
  · obtain ⟨_, _, _, _, hw, -⟩ := regWrite_eq b.toNat v (answer .done s)
    cases h
    rw [hw]
    exact .inl rfl
  · cases h
    by_cases hp : s.status.phase = .tx
    · simp only [bufWrite, hp, decide_true, if_true]
      exact .inl rfl
    · simp only [bufWrite, hp, decide_false, Bool.false_eq_true, if_false]
      by_cases hc : b.toNat ≤ a ∧ a < b.toNat + n
      · exact .inr ⟨hc.1, hc.2, hp⟩
      · exact .inl (byteAt_putBytes_outside n _ v _ (by omega))
  · cases h
    obtain ⟨hlo, -⟩ := regionOf_rxb_bounds hr
    by_cases hp : s.status.phase = .rx
    · simp only [bufWrite, hp, decide_true, if_true]
      exact .inl rfl
    · simp only [bufWrite, hp, decide_false, Bool.false_eq_true, if_false]
      exact .inl (byteAt_putBytes_outside n _ v _ (by omega))

/-- Settles O49: every step but a host write and reset leaves TXBUF alone, and a host write covers the byte it changes. -/
theorem txbufOnlyTheHostWrites : Obligations.TxbufOnlyTheHostWrites := by
  intro s t a hlo hhi ht hne
  have htake : byteAt (takeEvent s) a = byteAt s a := byteAt_congr (by simp) (by simp) a
  have same (h : t.mem = (takeEvent s).mem ∧ t.epoch = (takeEvent s).epoch) : byteAt t a = byteAt s a :=
    (byteAt_congr h.1 h.2 a).trans htake
  obtain ⟨-, he, hs⟩ | ⟨b, n, -, hs⟩ | ⟨b, n, v, hn, hs⟩ | ⟨b, -, hs⟩ | ⟨-, hs⟩ | ⟨-, hs⟩ | ⟨-, hs⟩ | ⟨-, hs⟩ |
    ⟨-, -, hs⟩ | ⟨-, hs⟩ | ⟨-, hs⟩ | ⟨hn, hs⟩ | hs := step_cases s <;> rw [hs] at ht
  · obtain ⟨-, hi⟩ | ⟨-, hi⟩ := internalStep_cases he <;> rw [hi] at ht
    · exact absurd ((receiveKeeps_rxConsume ht).below a hhi) hne
    · obtain ⟨-, hm, hep⟩ := lbEmit_frame ht
      exact absurd (byteAt_congr hm hep a) hne
  · cases ht
    exact absurd (same ⟨rfl, rfl⟩) hne
  · obtain hb | ⟨h1, h2, h3⟩ := hostWrite_txbuf hhi ht
    · exact absurd (hb.trans htake) hne
    · exact .inr ⟨b, n, v, hn, h1, h2, by simpa using h3⟩
  · cases ht
    exact absurd (same (rxByte_bytes b _)) hne
  · exact absurd (same (txAccept_frame ht).2) hne
  · cases ht
    exact absurd (same (openOk_bytes _)) hne
  · cases ht
    exact absurd (same (openFail_bytes _)) hne
  · exact absurd (same (ioError_bytes ht)) hne
  · exact absurd (same (tick_bytes ht)) hne
  · exact absurd (((receiveKeeps_rxConsume ht).below a hhi).trans htake) hne
  · exact absurd (same (lbEmit_frame ht).2) hne
  · exact .inl hn
  · cases ht
    exact absurd htake hne

/-! ### The frame timer (10_state.md R153) -/

/-- While a command runs a command word starts no phase, so frame_timer stays (41_transport.md R510). -/
theorem cmdWrite_frameTimer {w : Word} (hb : s.status.busy = true) (h : cmdWrite w s = .next t) :
    t.timers.frame = s.timers.frame := by
  obtain ⟨i, -, he⟩ | ⟨-, -, he⟩ := cmdWrite_cases w s <;> rw [he] at h
  · obtain ⟨-, -, he⟩ | ⟨-, -, -, he⟩ | ⟨hn, -⟩ := exec_next i s
    · rw [he] at h
      cases h
      rfl
    · rw [he] at h
      cases h
      simp [disconnectLine]
    · simp [hb] at hn
  · cases h
    simp [illegalCommand, hb]

theorem hostWrite_frameTimer {a : BitVec 16} {n : Nat} {v : Word} (hb : s.status.busy = true)
    (h : hostWrite a n v s = .next t) : t.timers.frame = s.timers.frame := by
  obtain ⟨-, he⟩ | ⟨-, -, -, he⟩ | ⟨-, -, -, he⟩ | ⟨-, -, he⟩ | ⟨-, -, he⟩ := hostWrite_cases a n v s <;> rw [he] at h
  · cases h
    rfl
  · exact cmdWrite_frameTimer (s := answer .done s) hb h
  · obtain ⟨_, _, _, _, hw, -⟩ := regWrite_eq a.toNat v (answer .done s)
    cases h
    rw [hw]
    rfl
  · cases h
    unfold bufWrite
    split_ifs <;> simp
  · cases h
    unfold bufWrite
    split_ifs <;> simp

/-- A saturating count that stays below its limit has moved on by one (10_state.md R153). -/
theorem satInc_toNat_of_lt {w : Nat} {x y : BitVec w} (h : (satInc x).toNat < y.toNat) :
    (satInc x).toNat = x.toNat + 1 := by
  unfold satInc at *
  have hy := y.isLt
  split_ifs at h ⊢ with hx
  · rw [hx, BitVec.toNat_allOnes] at h
    omega
  · have hne : x.toNat ≠ 2 ^ w - 1 := fun he => hx (BitVec.eq_of_toNat_eq (by rw [he, BitVec.toNat_allOnes]))
    have hlt := x.isLt
    rw [BitVec.toNat_add, BitVec.toNat_ofNat]
    rw [Nat.add_mod_mod, Nat.mod_eq_of_lt (by omega)]

/-- Settles O38: a tick of the RX phase counts one in frame_timer before the deadline, and no other step that leaves the phase
running writes it. -/
theorem deadlineBoundsTheRxPhase : Obligations.DeadlineBoundsTheRxPhase := by
  intro s t h hp ht htp
  have hlink : s.status.link = .connected := h.movingConnected (.inr hp)
  have hbusy : s.status.busy = true := h.busyPhase.2 (by simp [hp])
  have htake : (takeEvent s).timers.frame = s.timers.frame := by simp
  constructor
  · intro hn hi hne
    rw [step_perform (.inr hi), hn] at ht
    change tick (takeEvent s) = .next t at ht
    unfold tick at ht
    rw [if_pos (by simpa using hp), tickReconn_of_linked (by simp [hlink])] at ht
    obtain ⟨-, -, hf, hlt⟩ := tickRx_frame ht
    have hlt' := hlt htp (by simpa using hne)
    rw [htake] at hf hlt'
    rw [hf]
    exact ⟨satInc_toNat_of_lt hlt', by simpa using hlt'⟩
  · intro hno
    obtain ⟨-, he, hs⟩ | ⟨a, n, -, hs⟩ | ⟨a, n, v, -, hs⟩ | ⟨b, -, hs⟩ | ⟨he, hs⟩ | ⟨hl, hs⟩ | ⟨hl, hs⟩ | ⟨-, hs⟩ |
      ⟨hn, hi, hs⟩ | ⟨-, hs⟩ | ⟨he, hs⟩ | ⟨-, hs⟩ | hs := step_cases s <;> rw [hs] at ht
    · obtain ⟨-, hi⟩ | ⟨hl, -⟩ := internalStep_cases he
      · rw [hi] at ht
        exact (receiveKeeps_rxConsume ht).frameTimer
      · simp [phase_of_lbEmitEnabled hl] at hp
    · cases ht
      exact htake
    · exact (hostWrite_frameTimer (by simpa using hbusy) ht).trans htake
    · cases ht
      unfold rxByte
      split_ifs <;> simp
    · simp [phase_of_txAcceptEnabled he] at hp
    · simp [hlink] at hl
    · simp [hlink] at hl
    · obtain ⟨-, -, rfl⟩ | ⟨-, -, rfl⟩ | ⟨-, rfl⟩ | ⟨-, rfl⟩ := ioError_next ht <;> simp [dropLine]
    · simp [hn, hi] at hno
    · exact (receiveKeeps_rxConsume ht).frameTimer.trans htake
    · simp [phase_of_lbEmitEnabled he] at hp
    · cases ht
      simp [resetStep, State.resetWith] at htp
    · cases ht
      exact htake

end Sys2Proof.Machine
end

section
/-! PROOFS. What the host reads from and writes to the registers (10_state.md R110 to R134, 20_memory.md R206):
`Obligations.ReservedBitsAndReadOnly`, `Obligations.RegisterReadBack`, `Obligations.StatusRegister`,
`Obligations.InterruptLevel`, `Obligations.ReceiveViews`. -/

namespace Sys2Proof.Machine

variable {s t : State}

/-! ### Fields of a 32-bit word -/

/-- A field reads back at its own place. -/
theorem extractLsb'_field_same {n : Nat} (x : BitVec n) (k : Nat) (h : k + n ≤ 32) :
    (x.setWidth 32 <<< k).extractLsb' k n = x := by
  ext i hi
  simp only [BitVec.getElem_extractLsb', BitVec.getLsbD_shiftLeft, BitVec.getLsbD_setWidth, Nat.add_sub_cancel_left,
    BitVec.getLsbD_eq_getElem hi]
  simp [show k + i < 32 by omega, show i < 32 by omega]

/-- A field reads 0 at every place apart from its own. -/
theorem extractLsb'_field_apart {n : Nat} (x : BitVec n) (k j m : Nat) (h : j + m ≤ k ∨ k + n ≤ j) :
    (x.setWidth 32 <<< k).extractLsb' j m = 0#m := by
  ext i hi
  simp only [BitVec.getElem_extractLsb', BitVec.getLsbD_shiftLeft, BitVec.getLsbD_setWidth, BitVec.getElem_zero]
  rcases h with h | h
  · simp [show j + i < k by omega]
  · simp [BitVec.getLsbD_of_ge x (j + i - k) (by omega)]

/-- The lowest field of a word, read at its place. -/
theorem extractLsb'_low_same {n : Nat} (x : BitVec n) (h : n ≤ 32) : (x.setWidth 32).extractLsb' 0 n = x := by
  simpa using extractLsb'_field_same x 0 (by omega)

/-- The lowest field of a word reads 0 above it. -/
theorem extractLsb'_low_apart {n : Nat} (x : BitVec n) (j m : Nat) (h : n ≤ j) : (x.setWidth 32).extractLsb' j m = 0#m := by
  simpa using extractLsb'_field_apart x 0 j m (.inr (by omega))

/-- The bit that `bitAt` puts in place. -/
theorem getElem_bitAt (b : Bool) (k i : Nat) (h : i < 32) : (bitAt b k)[i] = (decide (i = k) && b) := by
  unfold bitAt
  rw [BitVec.getElem_shiftLeft, BitVec.getElem_setWidth, BitVec.getLsbD_ofBool]
  rcases Nat.lt_trichotomy i k with hk | rfl | hk
  · simp [hk, hk.ne]
  · simp
  · simp [hk.ne', show i - k ≠ 0 by omega]

/-- The low `n` bits of a word, and 0 above. -/
def lowMask (n : Nat) : Word := (BitVec.allOnes n).setWidth 32

theorem getElem_lowMask (n i : Nat) (h : i < 32) : (lowMask n)[i] = decide (i < n) := by
  simp [lowMask, BitVec.getElem_setWidth]

/-- A word with nothing above its low `n` bits is cleared by the mask of the other bits. -/
theorem and_not_lowMask {n : Nat} {w : Word} (h : w.extractLsb' n (32 - n) = 0#(32 - n)) : w &&& ~~~lowMask n = 0#32 := by
  ext i hi
  rw [BitVec.getElem_and, BitVec.getElem_not, getElem_lowMask, BitVec.getElem_zero]
  by_cases hn : i < n
  · simp [hn]
  · have hbit := congrArg (·.getLsbD (i - n)) h
    simp only [BitVec.getLsbD_extractLsb', BitVec.getLsbD_zero, show n + (i - n) = i by omega,
      BitVec.getLsbD_eq_getElem hi] at hbit
    simpa [hn, show i - n < 32 - n by omega] using hbit

/-- Truncating to `n` bits sees the low `n` bits alone. -/
theorem setWidth_and_lowMask (n : Nat) (v : Word) (h : n ≤ 32) : (v &&& lowMask n).setWidth n = v.setWidth n := by
  rw [BitVec.setWidth_and, lowMask, BitVec.setWidth_setWidth_of_le _ h, BitVec.setWidth_eq, BitVec.and_allOnes]

/-- Truncating a word and widening it again keeps its low bits. -/
theorem setWidth_setWidth_eq_and_lowMask (n : Nat) (v : Word) : (v.setWidth n).setWidth 32 = v &&& lowMask n := by
  ext i hi
  rw [BitVec.getElem_and, getElem_lowMask, BitVec.getElem_setWidth, BitVec.getLsbD_setWidth, BitVec.getLsbD_eq_getElem hi,
    Bool.and_comm]

/-! ### Register accesses (20_memory.md R206) -/

theorem aligned_reg {a : Nat} (h4 : a % 4 = 0) : aligned a 4 = true := by simp [aligned, h4]

theorem regionOf_reg {a : Nat} (h4 : a % 4 = 0) (hle : a ≤ 0x005C) : regionOf a 4 = .reg := by
  unfold regionOf
  rw [if_pos ⟨rfl, h4, hle⟩]

/-- A read of a register answers what `regRead` gives and changes nothing else (20_memory.md R206, R209). -/
theorem hostRead_reg {a : BitVec 16} (h4 : a.toNat % 4 = 0) (hle : a.toNat ≤ 0x005C) (s : State) :
    hostRead a 4 s = { s with busResp := .data (regRead a.toNat s) } := by
  unfold hostRead readResp
  rw [aligned_reg h4, regionOf_reg h4 hle]
  rfl

/-- A write to a register but CMD is `regWrite` (20_memory.md R206). -/
theorem hostWrite_reg {a : BitVec 16} (h4 : a.toNat % 4 = 0) (hle : a.toNat ≤ 0x005C) (hc : a ≠ cmdOffset) (v : Word)
    (s : State) : hostWrite a 4 v s = .next (regWrite a.toNat v { s with busResp := .done }) := by
  unfold hostWrite
  rw [aligned_reg h4, regionOf_reg h4 hle]
  simp only [hc, if_false]
  rfl

/-! ### The words of the registers with several fields -/

/-- CTRL holds two bits (10_state.md R111). -/
theorem ctrlWord_high (s : State) : (ctrlWord s).extractLsb' 2 30 = 0#30 := by
  simp [ctrlWord, bitAt, BitVec.extractLsb'_or, extractLsb'_field_apart, extractLsb'_low_apart]

/-- The layout of STATUS (10_state.md R113). -/
theorem statusWord_fields (s : State) :
    (statusWord s).getLsbD 0 = s.status.busy ∧ (statusWord s).extractLsb' 1 2 = linkBits s.status.link ∧
    (statusWord s).getLsbD 3 = s.status.armed ∧ (statusWord s).extractLsb' 4 2 = phaseBits s.status.phase ∧
    (statusWord s).extractLsb' 6 2 = rxstBits s.status.rxst ∧ (statusWord s).extractLsb' 8 4 = s.status.op ∧
    (statusWord s).extractLsb' 12 20 = 0#20 := by
  refine ⟨?_, ?_, ?_, ?_, ?_, ?_, ?_⟩
  case refine_1 | refine_3 => simp [statusWord, getElem_bitAt]
  all_goals simp [statusWord, bitAt, BitVec.extractLsb'_or, extractLsb'_field_same, extractLsb'_field_apart,
    extractLsb'_low_apart]

/-- The layout of RESULT (10_state.md R114). -/
theorem resultWord_fields (s : State) :
    (resultWord s).extractLsb' 0 8 = s.result.code ∧ (resultWord s).extractLsb' 8 4 = s.result.rtnClass ∧
    (resultWord s).getLsbD 12 = s.result.lenErrKind ∧ (resultWord s).getLsbD 13 = s.result.autoRtnFail ∧
    (resultWord s).extractLsb' 14 18 = 0#18 := by
  refine ⟨?_, ?_, ?_, ?_, ?_⟩
  case refine_3 | refine_4 => simp [resultWord, getElem_bitAt]
  all_goals simp [resultWord, bitAt, BitVec.extractLsb'_or, extractLsb'_field_same, extractLsb'_field_apart,
    extractLsb'_low_same, extractLsb'_low_apart]

/-- The layout of RX_LENFIELD (10_state.md R126). -/
theorem rxLenFieldWord_fields (s : State) :
    (rxLenFieldWord s).extractLsb' 0 12 = lenId (rxbuf s 5) (rxbuf s 6) ∧
    (rxLenFieldWord s).extractLsb' 12 4 = lchkNibble (rxbuf s 5) ∧
    (rxLenFieldWord s).extractLsb' 16 4 = lchk (lenId (rxbuf s 5) (rxbuf s 6)).toNat ∧
    (rxLenFieldWord s).extractLsb' 20 12 = 0#12 := by
  refine ⟨?_, ?_, ?_, ?_⟩ <;>
    simp [rxLenFieldWord, BitVec.extractLsb'_or, extractLsb'_field_same, extractLsb'_field_apart, extractLsb'_low_same,
      extractLsb'_low_apart]

/-! ### Reserved bits and read-only registers (10_state.md R134) -/

/-- What a register of `n` bits does with its reserved bits: they read 0, and a write does not see them. -/
def ReservesAbove (off n : Nat) (s : State) (v : Word) : Prop :=
  regRead off s &&& ~~~lowMask n = 0#32 ∧ regWrite off v s = regWrite off (v &&& lowMask n) s

/-- A register whose value stands in its low `n` bits, and whose write truncates to them. -/
theorem reservesAbove_of_low {off n : Nat} {v : Word} {x : BitVec n} (hn : n ≤ 32) (hr : regRead off s = x.setWidth 32)
    (hw : ∀ y : Word, y.setWidth n = v.setWidth n → regWrite off v s = regWrite off y s) : ReservesAbove off n s v :=
  ⟨and_not_lowMask (by rw [hr]; exact extractLsb'_low_apart x n _ le_rfl), hw _ (setWidth_and_lowMask n v hn)⟩

/-- A register that a write leaves alone. -/
theorem reservesAbove_of_readOnly {off n : Nat} {v : Word} (hr : (regRead off s).extractLsb' n (32 - n) = 0#(32 - n))
    (hw : ∀ y : Word, regWrite off y s = s) : ReservesAbove off n s v :=
  ⟨and_not_lowMask hr, (hw v).trans (hw _).symm⟩

theorem reservesAbove_ctrl (s : State) (v : Word) : ReservesAbove 0x004 2 s v := by
  refine ⟨and_not_lowMask (ctrlWord_high s), ?_⟩
  have hbit (i : Nat) (hi : i < 2) : (v &&& lowMask 2).getLsbD i = v.getLsbD i := by
    rw [BitVec.getLsbD_eq_getElem (by omega), BitVec.getLsbD_eq_getElem (by omega), BitVec.getElem_and, getElem_lowMask]
    simp [hi]
  simp only [regWrite, hbit 0 (by omega), hbit 1 (by omega)]

/-- Settles O43: the fields of each register stand below its reserved bits, a write truncates to them, and a write to a
read-only register is none. -/
theorem reservedBitsAndReadOnly : Obligations.ReservedBitsAndReadOnly := by
  intro s v
  refine ⟨?_, ?_, rfl⟩
  · have hstatus : ReservesAbove 0x00C 12 s v := by
      obtain ⟨-, -, -, -, -, -, hhigh⟩ := statusWord_fields s
      exact reservesAbove_of_readOnly hhigh fun _ => rfl
    have hresult : ReservesAbove 0x010 14 s v := by
      obtain ⟨-, -, -, -, hhigh⟩ := resultWord_fields s
      exact reservesAbove_of_readOnly hhigh fun _ => rfl
    have hlenField : ReservesAbove 0x040 20 s v := by
      obtain ⟨-, -, -, hhigh⟩ := rxLenFieldWord_fields s
      exact reservesAbove_of_readOnly hhigh fun _ => rfl
    have hattempt : ReservesAbove 0x054 8 s v :=
      reservesAbove_of_readOnly (extractLsb'_low_apart s.counters.attempt 8 24 le_rfl) fun _ => rfl
    have hlevel : ReservesAbove 0x05C 16 s v :=
      reservesAbove_of_readOnly (extractLsb'_low_apart (BitVec.ofNat 16 s.fifo.length) 16 16 le_rfl) fun _ => rfl
    have hint : ReservesAbove 0x014 6 s v :=
      reservesAbove_of_low (by omega) (x := s.intStatus) rfl fun y hy => by simp only [regWrite, hy]
    have henable : ReservesAbove 0x018 6 s v :=
      reservesAbove_of_low (by omega) (x := s.regs.intEnable) rfl fun y hy => by simp only [regWrite, hy]
    have hver : ReservesAbove 0x01C 8 s v :=
      reservesAbove_of_low (by omega) (x := s.regs.cfgVer) rfl fun y hy => by simp only [regWrite, hy]
    have htmoByte : ReservesAbove 0x024 16 s v :=
      reservesAbove_of_low (by omega) (x := s.regs.tmoByte) rfl fun y hy => by simp only [regWrite, hy]
    have hretry : ReservesAbove 0x028 8 s v :=
      reservesAbove_of_low (by omega) (x := s.regs.retryLimit) rfl fun y hy => by simp only [regWrite, hy]
    have htmoFrame : ReservesAbove 0x02C 24 s v :=
      reservesAbove_of_low (by omega) (x := s.regs.tmoFrame) rfl fun y hy => by simp only [regWrite, hy]
    have hreconn : ReservesAbove 0x030 16 s v :=
      reservesAbove_of_low (by omega) (x := s.regs.reconnIvl) rfl fun y hy => by simp only [regWrite, hy]
    have hhdr : ReservesAbove 0x034 24 s v :=
      reservesAbove_of_low (by omega) (x := s.regs.txHdr) rfl fun y hy => by simp only [regWrite, hy]
    have hlen : ReservesAbove 0x038 16 s v :=
      reservesAbove_of_low (by omega) (x := s.regs.txLen) rfl fun y hy => by simp only [regWrite, hy]
    have hflen : ReservesAbove 0x044 13 s v :=
      reservesAbove_of_low (by omega) (x := s.rxFlen) rfl fun y hy => by simp only [regWrite, writeRxFlen, hy]
    have hskip : ReservesAbove 0x04C 16 s v :=
      reservesAbove_of_low (by omega) (x := s.counters.skip) rfl fun y hy => by simp only [regWrite, hy]
    have hdiscard : ReservesAbove 0x050 16 s v :=
      reservesAbove_of_low (by omega) (x := s.counters.discard) rfl fun y hy => by simp only [regWrite, hy]
    have hframes : ReservesAbove 0x058 16 s v :=
      reservesAbove_of_low (by omega) (x := s.counters.framesOk) rfl fun y hy => by simp only [regWrite, hy]
    simp only [List.forall_mem_cons, List.not_mem_nil, false_imp_iff, implies_true, and_true]
    exact ⟨reservesAbove_ctrl s v, hstatus, hresult, hint, henable, hver, htmoByte, hretry, htmoFrame, hreconn, hhdr, hlen,
      hlenField, hflen, hskip, hdiscard, hattempt, hframes, hlevel⟩
  · simp only [List.forall_mem_cons, List.not_mem_nil, false_imp_iff, implies_true, and_true]
    exact ⟨rfl, rfl, rfl, rfl, rfl, rfl, rfl, rfl⟩

/-! ### The plain read-write registers (10_state.md R111, R116 to R124, R129, R130, R132) -/

/-- The registers that a host write stores as it is, with the mask of their bits. -/
def plainRegisters : List (BitVec 16 × Word) :=
  [(0x0004#16, 0x00000003#32), (0x0018#16, 0x0000003F#32), (0x001C#16, 0x000000FF#32),
    (0x0020#16, 0xFFFFFFFF#32), (0x0024#16, 0x0000FFFF#32), (0x0028#16, 0x000000FF#32), (0x002C#16, 0x00FFFFFF#32),
    (0x0030#16, 0x0000FFFF#32), (0x0034#16, 0x00FFFFFF#32), (0x0038#16, 0x0000FFFF#32), (0x004C#16, 0x0000FFFF#32),
    (0x0050#16, 0x0000FFFF#32), (0x0058#16, 0x0000FFFF#32)]

/-- They lie on register offsets, and none is CMD. -/
theorem plainRegisters_offset {r : BitVec 16 × Word} (hr : r ∈ plainRegisters) :
    r.1.toNat % 4 = 0 ∧ r.1.toNat ≤ 0x005C ∧ r.1 ≠ cmdOffset := by
  revert r
  simp only [plainRegisters, List.forall_mem_cons, List.not_mem_nil, false_imp_iff, implies_true, and_true]
  decide

theorem ctrlWord_readBack (v : Word) : bitAt (v.getLsbD 0) 0 ||| bitAt (v.getLsbD 1) 1 = v &&& lowMask 2 := by
  ext i hi
  rw [BitVec.getElem_or, getElem_bitAt, getElem_bitAt, BitVec.getElem_and, getElem_lowMask]
  match i with
  | 0 => simp
  | 1 => simp
  | i + 2 => simp

/-- A plain register reads back the bits written. -/
theorem regRead_regWrite_plain {r : BitVec 16 × Word} (hr : r ∈ plainRegisters) (v : Word) (s : State) :
    regRead r.1.toNat (regWrite r.1.toNat v s) = v &&& r.2 := by
  have h32 : v = v &&& lowMask 32 := by rw [← setWidth_setWidth_eq_and_lowMask]; simp
  revert r
  simp only [plainRegisters, List.forall_mem_cons, List.not_mem_nil, false_imp_iff, implies_true, and_true]
  exact ⟨ctrlWord_readBack v, setWidth_setWidth_eq_and_lowMask 6 v, setWidth_setWidth_eq_and_lowMask 8 v, h32,
    setWidth_setWidth_eq_and_lowMask 16 v, setWidth_setWidth_eq_and_lowMask 8 v, setWidth_setWidth_eq_and_lowMask 24 v,
    setWidth_setWidth_eq_and_lowMask 16 v, setWidth_setWidth_eq_and_lowMask 24 v, setWidth_setWidth_eq_and_lowMask 16 v,
    setWidth_setWidth_eq_and_lowMask 16 v, setWidth_setWidth_eq_and_lowMask 16 v, setWidth_setWidth_eq_and_lowMask 16 v⟩

/-- A write to a plain register changes what no other register reads. -/
theorem regRead_regWrite_other {r : BitVec 16 × Word} {q : Nat} (hr : r ∈ plainRegisters) (hq : q ≠ r.1.toNat) (v : Word)
    (s : State) : regRead q (regWrite r.1.toNat v s) = regRead q s := by
  revert r
  simp only [plainRegisters, List.forall_mem_cons, List.not_mem_nil, false_imp_iff, implies_true, and_true]
  refine ⟨?_, ?_, ?_, ?_, ?_, ?_, ?_, ?_, ?_, ?_, ?_, ?_, ?_⟩
  all_goals
    intro hq
    unfold regRead
    split <;> try rfl
    exact absurd rfl hq

/-- A register write writes no buffer byte. -/
theorem byteAt_regWrite (off : Nat) (v : Word) (s : State) (a : Nat) : byteAt (regWrite off v s) a = byteAt s a := by
  obtain ⟨_, _, _, _, he, -⟩ := regWrite_eq off v s
  rw [he]
  rfl

/-- A write to RX_FLEN is seen by RX_FLEN and the view RX_CHK alone (10_state.md R127, R128). -/
theorem regRead_rxFlen_other {q : Nat} (hf : q ≠ 0x044) (hc : q ≠ 0x048) (x : BitVec 13) (s : State) :
    regRead q { s with rxFlen := x } = regRead q s := by
  unfold regRead
  split <;> try rfl
  · exact absurd rfl hf
  · exact absurd rfl hc

/-- The recorded response does not reach a register. -/
theorem regRead_busResp (q : Nat) (r : BusResp) (s : State) : regRead q { s with busResp := r } = regRead q s := rfl

/-- Settles O44: every access to a register is `regRead` or `regWrite`, whose lemmas give what is stored, read back and left
alone. -/
theorem registerReadBack : Obligations.RegisterReadBack := by
  intro s v
  refine ⟨fun a h4 hle => ⟨hostRead_reg h4 hle s, fun hc => hostWrite_reg h4 hle hc v s⟩, ?_, fun r hr => ?_, fun hp => ?_⟩
  · simp only [← BitVec.setWidth_eq_extractLsb' (show 6 ≤ 32 by omega),
      ← BitVec.setWidth_eq_extractLsb' (show 8 ≤ 32 by omega), ← BitVec.setWidth_eq_extractLsb' (show 16 ≤ 32 by omega),
      ← BitVec.setWidth_eq_extractLsb' (show 24 ≤ 32 by omega)]
    exact ⟨rfl, rfl, rfl, rfl, rfl, rfl, rfl, rfl, rfl, rfl, rfl, rfl, rfl⟩
  · have hr' : r ∈ plainRegisters := hr
    obtain ⟨h4, hle, hc⟩ := plainRegisters_offset hr'
    refine ⟨_, hostWrite_reg h4 hle hc v s, ?_, fun q hq hq4 hqle => ?_, byteAt_regWrite _ v _⟩
    · rw [hostRead_reg h4 hle, regRead_regWrite_plain hr']
    · have hne : q.toNat ≠ r.1.toNat := fun he => hq (BitVec.eq_of_toNat_eq he)
      rw [hostRead_reg hq4 hqle, hostRead_reg hq4 hqle]
      simp only [regRead_regWrite_other hr' hne, regRead_busResp]
  · rw [← BitVec.setWidth_eq_extractLsb' (show 13 ≤ 32 by omega)]
    refine ⟨{ s with busResp := .done, rxFlen := v.setWidth 13 }, ?_, rfl, ?_, fun q hf hc hq4 hqle => ?_⟩
    · rw [hostWrite_reg (by decide) (by decide) (by decide)]
      exact congrArg _ (if_neg hp)
    · rw [hostRead_reg (by decide) (by decide)]
      exact congrArg (fun d => ({ s with rxFlen := v.setWidth 13, busResp := .data d } : State))
        (setWidth_setWidth_eq_and_lowMask 13 v)
    · have hf' : q.toNat ≠ 0x044 := fun he => hf (BitVec.eq_of_toNat_eq he)
      have hc' : q.toNat ≠ 0x048 := fun he => hc (BitVec.eq_of_toNat_eq he)
      rw [hostRead_reg hq4 hqle, hostRead_reg hq4 hqle]
      exact congrArg BusResp.data (regRead_rxFlen_other hf' hc' (v.setWidth 13) { s with busResp := .done })

/-! ### The interrupt output (10_state.md R116) -/

/-- Settles O46: a word of six bits is not 0 exactly when one of its bits is 1. -/
theorem interruptLevel : Obligations.InterruptLevel := by
  refine ⟨fun s => ?_, fun s v => hostWrite_reg (by decide) (by decide) (by decide) v s, rfl⟩
  rw [irq, bne_iff_ne]
  constructor
  · intro hne
    by_contra hnone
    push Not at hnone
    refine hne (BitVec.eq_of_getLsbD_eq fun i hi => ?_)
    rw [BitVec.getLsbD_and, BitVec.getLsbD_zero, Bool.and_eq_false_iff]
    by_cases hb : s.intStatus.getLsbD i = true
    · exact .inr (by simpa using hnone i hi hb)
    · exact .inl (by simpa using hb)
  · rintro ⟨i, -, hs, he⟩ h0
    have := congrArg (·.getLsbD i) h0
    simp [hs, he] at this

/-! ### The receive side (10_state.md R125 to R128, R131, R133) -/

/-- The layout of RX_HDR (10_state.md R125). -/
theorem rxHdrWord_fields (s : State) :
    (rxHdrWord s).extractLsb' 0 8 = rxbuf s 1 ∧ (rxHdrWord s).extractLsb' 8 8 = rxbuf s 2 ∧
    (rxHdrWord s).extractLsb' 16 8 = rxbuf s 3 ∧ (rxHdrWord s).extractLsb' 24 8 = rxbuf s 4 := by
  refine ⟨BitVec.extractLsb'_append_eq_right, ?_, ?_, ?_⟩ <;>
    refine (BitVec.extractLsb'_append_eq_of_le (by omega)).trans ?_
  · exact BitVec.extractLsb'_append_eq_right
  · exact (BitVec.extractLsb'_append_eq_of_le (by omega)).trans BitVec.extractLsb'_append_eq_right
  · exact (BitVec.extractLsb'_append_eq_of_le (by omega)).trans BitVec.extractLsb'_append_eq_left

/-- The bytes of RXBUF that the checksum covers (10_state.md R128, 40_frame_codec.md R410). -/
theorem imgBody_rxImage (s : State) (n : Nat) :
    imgBody (rxImage s n) = (List.range (n - 4)).map fun i => rxbuf s (1 + i) := by
  apply List.ext_getElem
  · simp [imgBody]; omega
  · intro i h1 h2
    simp [imgBody, rxImage, Nat.add_comm]

/-- RX_CHK of a frame length in range (10_state.md R128). -/
theorem rxChkWord_fields (hlo : 10 ≤ rxFlenNat s) (hhi : rxFlenNat s ≤ 4105) :
    (rxChkWord s).extractLsb' 0 16 = rxbuf s (rxFlenNat s - 3) ++ rxbuf s (rxFlenNat s - 2) ∧
    (rxChkWord s).extractLsb' 16 16 = chksum ((List.range (rxFlenNat s - 4)).map fun i => rxbuf s (1 + i)) := by
  unfold rxChkWord
  rw [if_pos ⟨hlo, hhi⟩, imgBody_rxImage, imgChk, rxImage_length, at0_rxImage s (by omega), at0_rxImage s (by omega)]
  exact ⟨BitVec.extractLsb'_append_eq_right, BitVec.extractLsb'_append_eq_left⟩

theorem rxChkWord_out_of_range (h : rxFlenNat s < 10 ∨ 4105 < rxFlenNat s) : rxChkWord s = 0#32 :=
  if_neg fun hr => by
    simp only [minFrame, maxFrame] at hr
    omega

/-- Settles O47: each view by the layout of its word, each register by its field. -/
theorem receiveViews : Obligations.ReceiveViews := by
  intro s
  refine ⟨rxHdrWord_fields s, ?_, ⟨rxChkWord_fields, rxChkWord_out_of_range⟩, ?_, ?_, ?_, fun hf => ?_⟩
  · obtain ⟨h1, h2, h3, h4⟩ := rxLenFieldWord_fields s
    have hw : regRead 0x040 s = rxLenFieldWord s := rfl
    rw [hw]
    exact ⟨h1, h2, by rw [h3, h1], h4⟩
  · simp only [List.forall_mem_cons, List.not_mem_nil, false_imp_iff, implies_true, and_true]
    exact ⟨hostRead_reg (by decide) (by decide) s, hostRead_reg (by decide) (by decide) s,
      hostRead_reg (by decide) (by decide) s⟩
  · exact ⟨_, hostRead_reg (by decide) (by decide) s, extractLsb'_low_same s.rxFlen (by omega),
      extractLsb'_low_apart s.rxFlen 13 19 le_rfl⟩
  · exact ⟨_, hostRead_reg (by decide) (by decide) s, extractLsb'_low_same s.counters.attempt (by omega),
      extractLsb'_low_apart s.counters.attempt 8 24 le_rfl⟩
  · refine ⟨_, hostRead_reg (by decide) (by decide) s, ?_, extractLsb'_low_apart (BitVec.ofNat 16 s.fifo.length) 16 16 le_rfl⟩
    have hlow : (regRead 0x05C s).extractLsb' 0 16 = BitVec.ofNat 16 s.fifo.length := extractLsb'_low_same _ (by omega)
    change ((regRead 0x05C s).extractLsb' 0 16).toNat = s.fifo.length
    rw [hlow, BitVec.toNat_ofNat]
    omega

/-! ### STATUS, RESULT and INT_STATUS (10_state.md R113 to R115) -/

theorem linkBits_eq_iff (l : Link) : (linkBits l = 0#2 ↔ l = .disconnected) ∧ (linkBits l = 1#2 ↔ l = .connecting) ∧
    (linkBits l = 2#2 ↔ l = .connected) ∧ linkBits l ≠ 3#2 := by
  cases l <;> decide

theorem phaseBits_eq_iff (p : Phase) : (phaseBits p = 0#2 ↔ p = .none) ∧ (phaseBits p = 1#2 ↔ p = .opening) ∧
    (phaseBits p = 2#2 ↔ p = .tx) ∧ (phaseBits p = 3#2 ↔ p = .rx) := by
  cases p <;> decide

theorem rxstBits_eq_iff (r : RxState) : (rxstBits r = 0#2 ↔ r = .idle) ∧ (rxstBits r = 1#2 ↔ r = .hunt) ∧
    (rxstBits r = 2#2 ↔ r = .collect) ∧ rxstBits r ≠ 3#2 := by
  cases r <;> decide

/-- A RESULT of zeros reads 0. -/
theorem resultWord_zero (h : s.result = ResultReg.zero) : resultWord s = 0#32 := by
  unfold resultWord
  rw [h]
  decide

/-- Settles O48: the layouts of the three words, and the invariant read through them. -/
theorem statusRegister : Obligations.StatusRegister := by
  refine ⟨by decide, fun s => ⟨hostRead_reg (by decide) (by decide) s,
    ⟨_, hostRead_reg (by decide) (by decide) s, resultWord_fields s⟩,
    ⟨_, hostRead_reg (by decide) (by decide) s, extractLsb'_low_same s.intStatus (by omega),
      extractLsb'_low_apart s.intStatus 6 26 le_rfl⟩⟩, fun s h => ?_⟩
  obtain ⟨hbusy, hlink, harmed, hphase, hrxst, hop, hhigh⟩ := statusWord_fields s
  obtain ⟨hcode, hclass, hkind, hfail, -⟩ := resultWord_fields s
  obtain ⟨l0, l1, l2, l3⟩ := linkBits_eq_iff s.status.link
  obtain ⟨p0, p1, p2, p3⟩ := phaseBits_eq_iff s.status.phase
  obtain ⟨r0, r1, r2, r3⟩ := rxstBits_eq_iff s.status.rxst
  have hw : regRead 0x00C s = statusWord s := rfl
  have hr : regRead 0x010 s = resultWord s := rfl
  simp only [hw, hr, hbusy, hlink, harmed, hphase, hrxst, hop, hhigh, hcode, hclass, hkind, hfail]
  refine ⟨⟨trivial, trivial, trivial, trivial, l0, l1, l2, l3, p0, p1, p2, p3, r0, r1, r2, r3⟩, ?_, ?_, ?_, ?_, ?_, ?_, ?_, ?_⟩
  · rw [h.busyPhase, ne_eq, ne_eq, p0]
  · rw [ne_eq, r0, p3]
    exact h.rxstPhase
  · rw [p2, p3, l2]
    exact h.movingConnected
  · rw [p1, l1]
    exact h.openConnecting
  · exact fun hb => resultWord_zero (h.busyResult hb)
  · exact h.classFits.2
  · exact h.kindFits
  · exact h.failFits

end Sys2Proof.Machine
end

section
/-! PROOFS. The host window (20_memory.md): which accesses are bus errors, that reads change nothing, byte order and the buffer
locks (`Obligations.BusErrors`, `Obligations.ReadsChangeNothing`, `Obligations.LittleEndianBuffers`,
`Obligations.BufferLocks`). -/

namespace Sys2Proof.Machine

variable {a : BitVec 16} {n : Nat}

/-! ### Where an access lies (20_memory.md R206, R207) -/

theorem aligned_iff (a n : Nat) : aligned a n = true ↔ (n = 1 ∨ n = 2 ∨ n = 4) ∧ a % n = 0 := decide_eq_true_iff

theorem regionOf_txb {a n : Nat} (hlo : 0x1000 ≤ a) (hhi : a + n ≤ 0x2000) : regionOf a n = .txb := by
  unfold regionOf
  rw [if_neg (by omega), if_pos (by simp only [txBase]; omega)]

theorem regionOf_rxb {a n : Nat} (hn : 0 < n) (hlo : 0x2000 ≤ a) (hhi : a + n ≤ 0x3009) : regionOf a n = .rxb := by
  unfold regionOf
  rw [if_neg (by omega), if_neg (by omega), if_pos (by simp only [rxBase]; omega)]

theorem regionOf_eq_none_iff (a n : Nat) : regionOf a n = .none ↔
    ¬(n = 4 ∧ a % 4 = 0 ∧ a ≤ 0x005C) ∧ ¬(0x1000 ≤ a ∧ a + n - 1 ≤ 0x1FFF) ∧ ¬(0x2000 ≤ a ∧ a + n - 1 ≤ 0x3008) := by
  unfold regionOf
  split_ifs with h1 h2 h3
  · exact iff_of_false nofun fun h => h.1 h1
  · exact iff_of_false nofun fun h => h.2.1 h2
  · exact iff_of_false nofun fun h => h.2.2 h3
  · exact iff_of_true rfl ⟨h1, h2, h3⟩

/-- The accesses that R207 calls bus errors, as `Obligations.BusErrors` lists them. -/
def BadAccess (a n : Nat) : Prop :=
  ¬(n = 1 ∨ n = 2 ∨ n = 4) ∨ a % n ≠ 0 ∨ (a < 0x0060 ∧ n ≠ 4) ∨
    (0x0060 ≤ a ∧ a < 0x1000) ∨ 0x3009 ≤ a ∨ (0x2000 ≤ a ∧ 0x3009 < a + n)

/-- They are the accesses that are not aligned or lie in no region: an aligned access cannot straddle the end of the
registers or of TXBUF, so only RXBUF's end needs a clause of its own. -/
theorem badAccess_iff (a n : Nat) : BadAccess a n ↔ aligned a n = false ∨ regionOf a n = .none := by
  rw [← Bool.not_eq_true, aligned_iff, regionOf_eq_none_iff]
  unfold BadAccess
  by_cases hn : n = 1 ∨ n = 2 ∨ n = 4
  · obtain rfl | rfl | rfl := hn <;> omega
  · simp [hn]

/-! ### Reads (20_memory.md R206, R209) -/

theorem hostRead_of_badAccess (h : BadAccess a.toNat n) (s : State) : hostRead a n s = { s with busResp := .busError } := by
  unfold hostRead readResp
  obtain h | h := (badAccess_iff _ _).1 h <;> rw [h]
  · rfl
  · split_ifs <;> rfl

theorem hostRead_of_not_badAccess (h : ¬BadAccess a.toNat n) (s : State) :
    ∃ d, hostRead a n s = { s with busResp := .data d } := by
  rw [badAccess_iff, not_or, Bool.not_eq_false] at h
  obtain ⟨ha, hr⟩ := h
  unfold hostRead readResp
  rw [ha]
  cases h : regionOf a.toNat n with
  | reg | txb | rxb => exact ⟨_, rfl⟩
  | none => exact absurd h hr

/-- The recorded response does not reach a buffer byte. -/
theorem getBytes_busResp (r : BusResp) (s : State) (n a : Nat) : getBytes { s with busResp := r } n a = getBytes s n a := by
  induction n generalizing a with
  | zero => rfl
  | succ n ih =>
    rw [getBytes, getBytes, ih]
    rfl

/-- What a read answers does not depend on the response recorded before. -/
theorem readResp_busResp (a n : Nat) (r : BusResp) (s : State) : readResp a n { s with busResp := r } = readResp a n s := by
  simp only [readResp, getBytes_busResp, regRead_busResp]

/-- Settles O40: a read is no tick, so it is performed, and what it answers does not depend on the response it replaces. -/
theorem readsChangeNothing : Obligations.ReadsChangeNothing := by
  intro s a n hn
  refine ⟨readResp a.toNat n (takeEvent s), ?_, fun q => readResp_busResp a.toNat n q (takeEvent s)⟩
  rw [step_perform (.inl (by rw [hn]; simp)), hn]
  rfl

/-! ### The response to a write (20_memory.md R206, R208) -/

@[simp] theorem openLine_busResp (s : State) : (openLine s).busResp = s.busResp := by
  unfold openLine
  split <;> simp

@[simp] theorem disconnectLine_busResp (s : State) : (disconnectLine s).busResp = s.busResp := by simp [disconnectLine]

@[simp] theorem startTransmit_busResp (adr c1 c2 : Byte) (s : State) : (startTransmit adr c1 c2 s).busResp = s.busResp := by
  obtain ⟨-, he⟩ | ⟨-, -, he⟩ | ⟨-, -, he⟩ := startTransmit_cases adr c1 c2 s <;> rw [he] <;> simp

@[simp] theorem startReceive_busResp (s : State) : (startReceive s).busResp = s.busResp := by
  unfold startReceive
  split_ifs <;> simp

@[simp] theorem validateRxbuf_busResp (s : State) : (validateRxbuf s).busResp = s.busResp := by
  unfold validateRxbuf
  split_ifs <;> simp

@[simp] theorem illegalCommand_busResp (op : BitVec 4) (s : State) : (illegalCommand op s).busResp = s.busResp := by
  unfold illegalCommand
  split_ifs <;> simp

/-- A command answers a next state and leaves the response to the host's write alone (41_transport.md R510). -/
theorem exec_busResp (i : Instr) (s : State) : ∃ t, exec i s = .next t ∧ t.busResp = s.busResp := by
  obtain ⟨-, -, he⟩ | ⟨-, -, -, he⟩ | ⟨-, he⟩ := exec_next i s <;> refine ⟨_, he, ?_⟩
  · simp
  · simp
  · cases i <;> simp

theorem cmdWrite_busResp (w : Word) (s : State) : ∃ t, cmdWrite w s = .next t ∧ t.busResp = s.busResp := by
  obtain ⟨i, -, he⟩ | ⟨-, -, he⟩ := cmdWrite_cases w s <;> rw [he]
  · exact exec_busResp i s
  · exact ⟨_, rfl, illegalCommand_busResp _ s⟩

theorem regWrite_busResp (off : Nat) (v : Word) (s : State) : (regWrite off v s).busResp = s.busResp := by
  obtain ⟨_, _, _, _, he, -⟩ := regWrite_eq off v s
  rw [he]

theorem bufWrite_busResp (locked : Bool) (a n : Nat) (v : Word) (s : State) :
    (bufWrite locked a n v s).busResp = s.busResp := by
  unfold bufWrite
  split_ifs <;> simp

theorem hostWrite_of_badAccess (h : BadAccess a.toNat n) (v : Word) (s : State) :
    hostWrite a n v s = .next { s with busResp := .busError } := by
  unfold hostWrite
  obtain h | h := (badAccess_iff _ _).1 h <;> rw [h]
  · rfl
  · split_ifs <;> rfl

theorem hostWrite_of_not_badAccess (h : ¬BadAccess a.toNat n) (v : Word) (s : State) :
    ∃ t, hostWrite a n v s = .next t ∧ t.busResp = .done := by
  rw [badAccess_iff] at h
  obtain ⟨hbad, -⟩ | ⟨-, -, -, he⟩ | ⟨-, -, -, he⟩ | ⟨-, -, he⟩ | ⟨-, -, he⟩ := hostWrite_cases a n v s
  · exact absurd hbad h
  · rw [he]
    exact cmdWrite_busResp v (answer .done s)
  · exact ⟨_, he, regWrite_busResp _ v _⟩
  · exact ⟨_, he, bufWrite_busResp _ _ n v _⟩
  · exact ⟨_, he, bufWrite_busResp _ _ n v _⟩

/-- Settles O39: `BadAccess` is exactly what `HostRead` and `HostWrite` answer with the bus error. -/
theorem busErrors : Obligations.BusErrors := by
  intro s a n v
  exact ⟨fun h => ⟨hostRead_of_badAccess h s, hostWrite_of_badAccess h v s⟩,
    fun h => ⟨hostRead_of_not_badAccess h s, hostWrite_of_not_badAccess h v s⟩⟩

/-! ### Accesses to the buffers (20_memory.md R205, R206, R213) -/

theorem hostRead_buffer (ha : aligned a.toNat n = true) (hr : regionOf a.toNat n = .txb ∨ regionOf a.toNat n = .rxb)
    (s : State) : hostRead a n s = { s with busResp := .data (getBytes s n a.toNat) } := by
  unfold hostRead readResp
  obtain hr | hr := hr <;> rw [ha, hr] <;> rfl

theorem hostWrite_txb (ha : aligned a.toNat n = true) (hr : regionOf a.toNat n = .txb) (v : Word) (s : State) :
    hostWrite a n v s = .next (bufWrite (decide (s.status.phase = .tx)) a.toNat n v (answer .done s)) := by
  unfold hostWrite
  rw [ha, hr]
  rfl

theorem hostWrite_rxb (ha : aligned a.toNat n = true) (hr : regionOf a.toNat n = .rxb) (v : Word) (s : State) :
    hostWrite a n v s = .next (bufWrite (decide (s.status.phase = .rx)) a.toNat n v (answer .done s)) := by
  unfold hostWrite
  rw [ha, hr]
  rfl

/-- A byte shifted up by one place reads one place higher. -/
theorem extractLsb'_shiftLeft_byte (x : Word) {k : Nat} (hk : k + 1 < 4) :
    (x <<< 8).extractLsb' (8 * (k + 1)) 8 = x.extractLsb' (8 * k) 8 := by
  ext i hi
  simp only [BitVec.getElem_extractLsb', BitVec.getLsbD_shiftLeft]
  simp [show 8 * (k + 1) + i < 32 by omega, show ¬ 8 * (k + 1) + i < 8 by omega,
    show 8 * (k + 1) + i - 8 = 8 * k + i by omega]

/-- The lowest byte of a word shifted up by one place is 0. -/
theorem extractLsb'_shiftLeft_zero (x : Word) : (x <<< 8).extractLsb' 0 8 = 0#8 := by
  ext i hi
  simp [show i < 8 by omega]

/-- Byte k of what `getBytes` reads is the buffer byte at `a + k`, and 0 above the access's width (20_memory.md R205). -/
theorem extractLsb'_getBytes (s : State) (n a : Nat) {k : Nat} (hk : k < 4) :
    (getBytes s n a).extractLsb' (8 * k) 8 = if k < n then byteAt s (a + k) else 0#8 := by
  induction n generalizing a k with
  | zero => simp [getBytes]
  | succ n ih =>
    rw [getBytes, BitVec.extractLsb'_or]
    cases k with
    | zero =>
      rw [Nat.mul_zero, extractLsb'_low_same _ (by omega), extractLsb'_shiftLeft_zero]
      simp
    | succ k =>
      rw [extractLsb'_low_apart _ _ _ (by omega), extractLsb'_shiftLeft_byte _ hk, ih (a + 1) (by omega), BitVec.zero_or,
        Nat.add_right_comm, Nat.add_assoc a k 1]
      simp only [Nat.add_lt_add_iff_right]

/-- Settles O41: an access inside a buffer is `getBytes` or, unlocked, `putBytes`, whose lemmas give each byte. -/
theorem littleEndianBuffers : Obligations.LittleEndianBuffers := by
  intro s a n hn hmod hin
  have ha : aligned a.toNat n = true := (aligned_iff _ _).2 ⟨hn, hmod⟩
  have hr : regionOf a.toNat n = .txb ∨ regionOf a.toNat n = .rxb :=
    hin.imp (fun h => regionOf_txb h.1 h.2) (fun h => regionOf_rxb (by omega) h.1 h.2)
  refine ⟨⟨getBytes s n a.toNat, ?_, fun k hk => extractLsb'_getBytes s n a.toNat hk⟩, fun v htx hrx => ?_⟩
  · rw [hostRead_buffer ha hr]
  · have hw : hostWrite a n v s = .next (putBytes n a.toNat v (answer .done s)) := by
      obtain hr | hr := hr
      · obtain ⟨-, hhi⟩ := regionOf_txb_bounds hr
        have hp : s.status.phase ≠ .tx := fun hp => htx ⟨by omega, hp⟩
        simp [hostWrite_txb ha hr, bufWrite, hp]
      · obtain ⟨hlo, -⟩ := regionOf_rxb_bounds hr
        have hp : s.status.phase ≠ .rx := fun hp => hrx ⟨hlo, hp⟩
        simp [hostWrite_rxb ha hr, bufWrite, hp]
    exact ⟨_, hw, putBytes_eq n a.toNat v (answer .done s), fun k hk => byteAt_putBytes_inside n a.toNat v _ hk,
      fun x hx => byteAt_putBytes_outside n a.toNat v (answer .done s) hx⟩

/-- Settles O42: the phase of its lock turns a write to a buffer or to RX_FLEN into setting BUF_VIOL. -/
theorem bufferLocks : Obligations.BufferLocks := by
  intro s a n v hn hmod
  have ha : aligned a.toNat n = true := (aligned_iff _ _).2 ⟨hn, hmod⟩
  refine ⟨fun hp hlo hhi => ?_, fun hp hlo hhi => ?_, fun hp => ?_⟩
  · rw [hostWrite_txb ha (regionOf_txb hlo hhi), decide_eq_true hp]
    rfl
  · rw [hostWrite_rxb ha (regionOf_rxb (by omega) hlo hhi), decide_eq_true hp]
    rfl
  · rw [hostWrite_reg (by decide) (by decide) (by decide)]
    exact congrArg _ (if_pos hp)

end Sys2Proof.Machine
end

section
/-! PROOFS. The command words (30_encoding.md R320 to R323): which words are legal, and that decoder and encoder agree
(`Obligations.EncodeThenDecode`, `Obligations.LegalCommandWords`, `Obligations.DecodeMatchesEncode`,
`Obligations.IllegalCommandWords`, `Obligations.SampleWordsDecode`).

A word is its four fields of R320 (`word_ext`), and so is the meaning of a word: `decode_eq_instr_iff` says of which fields an
instruction is decoded, and `encode_fields` that the instruction's own word has them. -/

namespace Sys2Proof

variable {w : Word} {op : BitVec 4} {arg : Byte}

/-! ### The fields of a word (R320) -/

/-- Two words with the same four fields are one word. -/
theorem word_ext {v w : Word} (hop : wordOp v = wordOp w) (hlow : v.extractLsb' 4 4 = w.extractLsb' 4 4)
    (harg : wordArg v = wordArg w) (hhigh : v.extractLsb' 16 16 = w.extractLsb' 16 16) : v = w := by
  have split (x : Word) : x.extractLsb' 16 16 ++ wordArg x ++ x.extractLsb' 4 4 ++ wordOp x = x := by
    unfold wordArg wordOp
    iterate 3 rw [BitVec.extractLsb'_append_extractLsb'_eq_extractLsb' (by omega)]
    exact BitVec.extractLsb'_eq_self
  rw [← split v, ← split w, hop, hlow, harg, hhigh]

/-- The fields of an instruction's word, for every instruction (R323). -/
theorem encode_fields (i : Instr) : Laws.EncLegal.Statement i := by
  cases i with
  | nop => exact Laws.EncLegal.nop
  | connect => exact Laws.EncLegal.connect
  | disconnect => exact Laws.EncLegal.disconnect
  | send => exact Laws.EncLegal.send
  | receive => exact Laws.EncLegal.receive
  | transact => exact Laws.EncLegal.transact
  | respond rtn => exact Laws.EncLegal.respond rtn
  | validate => exact Laws.EncLegal.validate

/-- A word is an instruction's word exactly when it has the instruction's fields. -/
theorem eq_encode_iff (i : Instr) : w = encode i ↔
    wordOp w = i.opcode ∧ wordArg w = i.arg ∧ w.extractLsb' 4 4 = 0#4 ∧ w.extractLsb' 16 16 = 0#16 := by
  obtain ⟨hop, harg, hlow, hhigh⟩ := encode_fields i
  constructor
  · rintro rfl
    exact ⟨hop, harg, hlow, hhigh⟩
  · rintro ⟨hop', harg', hlow', hhigh'⟩
    exact word_ext (hop'.trans hop.symm) (hlow'.trans hlow.symm) (harg'.trans harg.symm) (hhigh'.trans hhigh.symm)

/-! ### Legal words (R322) -/

/-- The four checks of R322 as propositions. -/
theorem wordLegal_iff : wordLegal w = true ↔ (wordOp w).toNat < 8 ∧ w.extractLsb' 4 4 = 0#4 ∧
    w.extractLsb' 16 16 = 0#16 ∧ (wordArg w = 0#8 ∨ wordOp w = 6#4) := by
  simp only [wordLegal, fieldsLegal, opAssigned, lowReservedClear, highReservedClear, argAllowed, wordOp, wordArg,
    Bool.and_eq_true, Bool.or_eq_true, decide_eq_true_eq, beq_iff_eq, and_assoc]

/-- Every assigned opcode, with an ARG it allows, is some instruction's (R321). -/
theorem exists_instr_of_fields (hop : op.toNat < 8) (harg : arg = 0#8 ∨ op = 6#4) :
    ∃ i : Instr, op = i.opcode ∧ arg = i.arg := by
  by_cases h6 : op = 6#4
  · exact ⟨.respond arg, h6, rfl⟩
  obtain rfl : arg = 0#8 := harg.resolve_right h6
  have h : ∀ op : BitVec 4, op.toNat < 8 → op ≠ 6#4 →
      ∃ i ∈ [Instr.nop, .connect, .disconnect, .send, .receive, .transact, .validate], op = i.opcode ∧ 0#8 = i.arg := by
    decide
  obtain ⟨i, -, hi⟩ := h op hop h6
  exact ⟨i, hi⟩

/-- The fields of every instruction pass the checks of R322. -/
theorem Instr.fields_allowed (i : Instr) : i.opcode.toNat < 8 ∧ (i.arg = 0#8 ∨ i.opcode = 6#4) := by
  cases i with
  | respond rtn => exact ⟨by simp [Instr.opcode], .inr rfl⟩
  | _ => exact ⟨by decide, .inl rfl⟩

/-- The legal words are the words of the instructions (R323). -/
theorem wordLegal_iff_exists_encode : wordLegal w = true ↔ ∃ i, w = encode i := by
  rw [wordLegal_iff]
  constructor
  · rintro ⟨hop, hlow, hhigh, harg⟩
    obtain ⟨i, hi, ha⟩ := exists_instr_of_fields hop harg
    exact ⟨i, (eq_encode_iff i).2 ⟨hi, ha, hlow, hhigh⟩⟩
  · rintro ⟨i, hi⟩
    obtain ⟨hop, harg, hlow, hhigh⟩ := (eq_encode_iff i).1 hi
    rw [hop, harg]
    exact ⟨i.fields_allowed.1, hlow, hhigh, i.fields_allowed.2⟩

/-! ### The decoder (R321, R322) -/

/-- The decoder gives the instruction whose word it reads. -/
theorem decode_encode (i : Instr) : decode (encode i) = .instr i := by
  obtain ⟨hop, harg, hlow, hhigh⟩ := encode_fields i
  unfold decode
  rw [hop, harg, hlow, hhigh, if_neg (not_not_intro rfl), if_neg (not_not_intro rfl)]
  cases i <;> rfl

/-- An instruction without an argument is given only where ARG is 0. -/
theorem arg_of_withoutArg {i j : Instr} (h : withoutArg arg i = .instr j) : arg = 0#8 := by
  unfold withoutArg at h
  split_ifs at h with ha
  exact ha

/-- The opcode map gives an instruction only for an opcode and an ARG that R322 allows. -/
theorem fields_allowed_of_decodeOp {i : Instr} (h : decodeOp op arg = .instr i) : (arg = 0#8 ∨ op = 6#4) ∧ op.toNat < 8 := by
  unfold decodeOp at h
  split at h
  case h_9 => cases h
  case h_7 h6 => exact ⟨.inr (BitVec.eq_of_toNat_eq h6), by omega⟩
  all_goals exact ⟨.inl (arg_of_withoutArg h), by omega⟩

/-- Only legal words decode to an instruction. -/
theorem wordLegal_of_decode {i : Instr} (h : decode w = .instr i) : wordLegal w = true := by
  unfold decode at h
  split_ifs at h with hlow hhigh
  obtain ⟨harg, hop⟩ := fields_allowed_of_decodeOp h
  exact wordLegal_iff.2 ⟨hop, not_not.1 hlow, not_not.1 hhigh, harg⟩

/-- A word decodes to `i` exactly when it is the word of `i`: a word that decodes is legal, so it is some instruction's, and
that instruction is what the decoder gives. -/
theorem decode_eq_instr_iff (i : Instr) : decode w = .instr i ↔ w = encode i := by
  constructor
  · intro h
    obtain ⟨j, rfl⟩ := wordLegal_iff_exists_encode.1 (wordLegal_of_decode h)
    rw [decode_encode] at h
    rw [Decoded.instr.inj h]
  · rintro rfl
    exact decode_encode i

/-- The decoder rejects exactly the illegal words. -/
theorem decode_rejects_iff : (∃ why, decode w = .reject why) ↔ wordLegal w = false := by
  rw [← Bool.not_eq_true, wordLegal_iff_exists_encode]
  simp only [← decode_eq_instr_iff]
  cases decode w <;> simp

/-! ### The masks of R323 -/

/-- RESPOND's mask leaves ARG out: it asks for the other three fields of RESPOND's words (R323). -/
theorem and_mask_eq_respond_iff :
    w &&& 0xFFFF00FF#32 = 0x00000006#32 ↔ ∃ rtn, w = encode (.respond rtn) := by
  have field (j n : Nat) (hm : (0xFFFF00FF#32).extractLsb' j n = BitVec.allOnes n) :
      (w &&& 0xFFFF00FF#32).extractLsb' j n = w.extractLsb' j n := by
    rw [BitVec.extractLsb'_and, hm, BitVec.and_allOnes]
  have hop := field 0 4 (by decide)
  have hlow := field 4 4 (by decide)
  have hhigh := field 16 16 (by decide)
  constructor
  · intro h
    rw [h] at hop hlow hhigh
    exact ⟨wordArg w, (eq_encode_iff _).2 ⟨hop.symm, rfl, hlow.symm, hhigh.symm⟩⟩
  · rintro ⟨rtn, hw⟩
    obtain ⟨hop', -, hlow', hhigh'⟩ := (eq_encode_iff _).1 hw
    have harg : wordArg (w &&& 0xFFFF00FF#32) = 0#8 := by
      unfold wordArg
      rw [BitVec.extractLsb'_and]
      exact BitVec.and_zero
    exact word_ext (hop.trans hop') (hlow.trans hlow') harg (hhigh.trans hhigh')

/-- The legal words are the seven words without an argument and RESPOND's (R323). -/
theorem wordLegal_iff_mem_or_respond : wordLegal w = true ↔
    w ∈ [0x00000000#32, 0x00000001#32, 0x00000002#32, 0x00000003#32, 0x00000004#32, 0x00000005#32, 0x00000007#32] ∨
    ∃ rtn, w = encode (.respond rtn) := by
  rw [wordLegal_iff_exists_encode]
  constructor
  · rintro ⟨i, rfl⟩
    cases i with
    | respond rtn => exact .inr ⟨rtn, rfl⟩
    | _ => exact .inl (by decide)
  · rintro (h | ⟨rtn, h⟩)
    · simp only [List.mem_cons, List.not_mem_nil, or_false] at h
      obtain h | h | h | h | h | h | h := h
      exacts [⟨.nop, h⟩, ⟨.connect, h⟩, ⟨.disconnect, h⟩, ⟨.send, h⟩, ⟨.receive, h⟩, ⟨.transact, h⟩, ⟨.validate, h⟩]
    · exact ⟨_, h⟩

/-! ### The statements -/

/-- Settles O1: every instruction's word is legal and decodes back, and as it is already 32 bits wide the table-numbered decoder
reads it unchanged. -/
theorem encodeThenDecode : Obligations.EncodeThenDecode := by
  intro i _
  have hword : BitVec.ofNat 32 ((encode i).toNat % 2 ^ 32) = encode i := by
    rw [Nat.mod_eq_of_lt (encode i).isLt, BitVec.ofNat_toNat, BitVec.setWidth_eq]
  refine ⟨wordLegal_iff_exists_encode.2 ⟨i, rfl⟩, decode_encode i, ?_⟩
  rw [decodeTableWord, hword, decode_encode]
  rfl

/-- Settles O2: a legal word is some instruction's, and RESPOND's words are those under its mask. -/
theorem legalCommandWords : Obligations.LegalCommandWords := by
  refine ⟨fun w => ?_, fun w => wordLegal_iff_mem_or_respond⟩
  have hfull : w &&& 0xFFFFFFFF#32 = w := BitVec.and_allOnes
  rw [wordLegal_iff_mem_or_respond, and_mask_eq_respond_iff, hfull]
  simp only [exists_eq_right']

/-- Settles O3: the decoder reads each instruction's word as that instruction and rejects the illegal words. -/
theorem decodeMatchesEncode : Obligations.DecodeMatchesEncode :=
  fun _ => ⟨decode_eq_instr_iff, decode_rejects_iff⟩

/-- Settles O4: twelve fixed words, each decoded by evaluation. -/
theorem sampleWordsDecode : Obligations.SampleWordsDecode := by
  unfold Obligations.SampleWordsDecode
  decide

/-- The effect of writing an illegal word to CMD does not depend on why it is illegal (41_transport.md R510). -/
theorem cmdWrite_of_illegal (h : wordLegal w = false) (s : Machine.State) :
    Machine.cmdWrite w s = .next (Machine.illegalCommand (wordOp w) s) := by
  obtain ⟨why, hwhy⟩ := decode_rejects_iff.2 h
  rw [Machine.cmdWrite, hwhy]

/-- Settles O5: the first part negates the four checks; the second is `illegalCommand` on each side of BUSY. -/
theorem illegalCommandWords : Obligations.IllegalCommandWords := by
  refine ⟨fun w => ?_, fun s w hw => ⟨fun hb => ?_, fun hb => ?_⟩⟩
  · rw [← Bool.not_eq_true, wordLegal_iff]
    simp only [not_and_or, not_or, not_lt]
    rfl
  · rw [cmdWrite_of_illegal hw, Machine.illegalCommand, hb]
    rfl
  · rw [cmdWrite_of_illegal hw, Machine.illegalCommand, hb]
    rfl

end Sys2Proof
end

section
/-! PROOFS. The launch premises and the run of a host program (30_encoding.md R330, 70_reset_and_hazards.md R830, R833):
`Obligations.LaunchStates`.

How `runLines` goes on is said once, one equation per case; the three lines of R833 are then three runs of a line. -/

namespace Sys2Proof.Machine

variable {s t : State}

/-! ### The run of one line (R830) -/

/-- The internal steps of `settle` are a list of `rx_consume` and `lb_emit` steps. -/
theorem settleWithin_performs {n : Nat} (h : settleWithin n s = .next t) :
    ∃ es, performAll es s = .next t ∧ ∀ e ∈ es, e = .rxConsume ∨ e = .lbEmit := by
  induction n generalizing s with
  | zero => exact ⟨[], h, by simp⟩
  | succ n ih =>
    unfold settleWithin at h
    split_ifs at h with he
    · obtain ⟨v, hv, hn⟩ := andThen_eq_next.1 h
      obtain ⟨es, hes, hmem⟩ := ih hn
      have hstep : ∃ e, perform e s = internalStep s ∧ (e = .rxConsume ∨ e = .lbEmit) := by
        obtain hc | hc := Bool.eq_false_or_eq_true (rxConsumeEnabled s)
        · exact ⟨.rxConsume, by simp [perform, internalStep, hc], .inl rfl⟩
        · have hl : lbEmitEnabled s = true := by simpa [internalEnabled, hc] using he
          exact ⟨.lbEmit, by simp [perform, internalStep, hc, hl], .inr rfl⟩
      obtain ⟨e, hp, hke⟩ := hstep
      have hline : lineStep e s = .next v := by
        rw [lineStep, if_neg (by rintro rfl; simp at hke), hp, hv]
      exact ⟨e :: es, by rw [performAll, hline, andThen_next, hes], List.forall_mem_cons.2 ⟨hke, hmem⟩⟩
    · exact ⟨[], h, by simp⟩

/-- A line that makes one step, no tick, is that step where the step leaves no internal step enabled. -/
theorem runLine_of_perform {l : Line} {e : Event} (hl : lineEvents l = [e]) (he : e ≠ .tick) (hp : perform e s = .next t)
    (ht : internalEnabled t = false) : runLine l s = .next t := by
  rw [runLine, hl, performAll, lineStep, if_neg he, hp]
  exact settle_of_settled ht

/-! ### The run of the lines (R830) -/

/-- A line that is no `POLL` runs, and the rest of the program goes on from the state it leaves. -/
theorem runLines_cons {l : Line} (hl : l ≠ .poll) (ls : List Line) (h : runLine l s = .next t) :
    runLines (l :: ls) false s = runLines ls false t := by
  simp [runLines, lastRead, hl, h]

/-- A `POLL` reads STATUS, and waits when it reads BUSY = 1 (30_encoding.md R330). -/
theorem runLines_poll (h : internalEnabled s = false) (ls : List Line) :
    runLines (.poll :: ls) false s = runLines ls s.status.busy { s with busResp := .data (statusWord s) } := by
  simp [runLines, lastRead, runLine_poll h]

/-- A waiting `POLL` with no environment line next reads for ever (log 15). -/
theorem runLines_waiting {ls : List Line} (hb : s.status.busy = true)
    (hls : ls = [] ∨ ∃ l ls', ls = l :: ls' ∧ isEnv l = false) : runLines ls true s = .polling s := by
  obtain rfl | ⟨l, ls', rfl, hl⟩ := hls
  · simp [runLines, hb]
  · simp [runLines, hb, hl]

/-- An end state follows a line and its internal steps, so that none is enabled in it. -/
theorem runLines_settled {ls : List Line} {waiting : Bool} (hs : ls ≠ [] ∨ internalEnabled s = false)
    (h : runLines ls waiting s = .ended t) : internalEnabled t = false := by
  induction ls generalizing waiting s with
  | nil =>
    unfold runLines at h
    split_ifs at h
    obtain ⟨u, hu, hend⟩ := proceed_eq_ended.1 h
    obtain rfl := ProgramEnd.ended.inj hend
    unfold lastRead at hu
    split_ifs at hu
    · exact runLine_settled hu
    · cases hu
      exact hs.resolve_left (not_not_intro rfl)
  | cons l ls ih =>
    have rest {v : State} {w : Bool} (h' : proceed (runLine l v) (runLines ls w) = .ended t) :
        internalEnabled t = false := by
      obtain ⟨u, hu, hrest⟩ := proceed_eq_ended.1 h'
      exact ih (.inr (runLine_settled hu)) hrest
    unfold runLines at h
    split_ifs at h
    · exact rest h
    · obtain ⟨u, -, hrest⟩ := proceed_eq_ended.1 h
      exact rest hrest

/-! ### The launch premises (R833) -/

/-- A `LaunchReset` state is the reset state with any record of the environment and any draw of the buffer bytes. -/
theorem LaunchReset.exists_eq {depth : Nat} {ver : Byte} (h : LaunchReset depth ver s) : ∃ epoch inbox draws phyOut busResp,
    s = { State.resetWith { verReset := ver, rxfifoDepth := depth } with
      epoch := epoch, inbox := inbox, draws := draws, phyOut := phyOut, busResp := busResp } :=
  ⟨_, _, _, _, _, h⟩

/-- `WR CFG_VER` stores the version byte (10_state.md R117). -/
theorem runLine_wr_cfgVer (ver : Byte) (h : internalEnabled s = false) :
    runLine (.wr .cfgVer (ver.setWidth 32)) s =
      .next { s with regs := { s.regs with cfgVer := ver }, busResp := .done } := by
  refine runLine_of_perform rfl (by simp) ?_ h
  have hver : (ver.setWidth 32).setWidth 8 = ver := by simp
  refine (hostWrite_reg (a := 0x01C#16) (by decide) (by decide) (by decide) (ver.setWidth 32) s).trans ?_
  simp [regWrite, hver]

/-- `CMD CONNECT` in an idle block with the line closed asks for the line and waits (41_transport.md R511). -/
theorem runLine_connect (hb : s.status.busy = false) (hl : s.status.link = .disconnected) :
    runLine (.cmd .connect) s = .next (startOpen (putOut (.openReq s.regs.lineCfg) (clearReconn (moveLink .connecting
      (acceptCommand opConnect (answer .done s)))))) := by
  refine runLine_of_perform (e := cmdEvent (encode .connect)) rfl (by simp [cmdEvent]) ?_ rfl
  rw [perform_cmdEvent, cmdWrite, decode_encode]
  simp [exec, execConnect, openLine, hb, hl]

/-- `ENV open_ok` ends a CONNECT that waits for it (41_transport.md R501). -/
theorem runLine_openOk (hl : s.status.link = .connecting) (hp : s.status.phase = .opening) :
    runLine .envOpenOk s = .next (finish codeOk (setArmed true (clearFifo (moveLink .connected s)))) := by
  refine runLine_of_perform rfl (by simp) ?_ rfl
  rw [perform, if_pos hl, openOk, if_pos hp]

/-- What R833 says of `LaunchConnected`, from the reset state `s` it is reached from. -/
def connectedFrom (ver : Byte) (s : State) : State :=
  { s with
    regs := { s.regs with cfgVer := ver }
    status := { s.status with link := .connected, armed := true, op := 0x1#4 }
    intStatus := 0x05#6
    phyOut := s.phyOut ++ [.openReq 0x00000000#32]
    busResp := .done }

/-- The three lines of R833 end in `connectedFrom`. -/
theorem runProgram_connectLines {depth : Nat} {ver' : Byte} (ver : Byte) (h : LaunchReset depth ver' s) :
    runProgram (connectLines ver) s = .ended (connectedFrom ver s) := by
  obtain ⟨epoch, inbox, draws, phyOut, busResp, rfl⟩ := h.exists_eq
  unfold runProgram connectLines
  rw [runLines_cons (by simp) _ (runLine_wr_cfgVer ver rfl), runLines_cons (by simp) _ (runLine_connect rfl rfl),
    runLines_cons (by simp) _ (runLine_openOk rfl rfl)]
  have hflags : 0#6 ||| flagLinkChg ||| flagLinkChg ||| finishFlags codeOk = 0x05#6 := by decide
  rw [connectedFrom, ← hflags]
  rfl

/-! ### The statement -/

/-- Settles O58: the launch premises by the three lines, the run of a program by one equation of `runLines` per case. -/
theorem launchStates : Obligations.LaunchStates := by
  refine ⟨fun depth ver s h => ?reset, fun depth ver ver' s0 h => ?reached, fun depth ver s h => ?connected, fun s => rfl,
    fun l ls s t hl h => ?line, fun ls s t hls h => runLines_settled (.inl hls) h, fun depth ver s0 h => ?inFlight,
    fun ls s hs => ⟨fun hb => ?goesOn, fun hb hls t => ?waits⟩⟩
  case reset =>
    obtain ⟨epoch, inbox, draws, phyOut, busResp, rfl⟩ := h.exists_eq
    exact ⟨rfl, rfl, rfl, rfl, rfl, rfl, rfl, rfl, rfl, rfl, rfl, fun a => rfl⟩
  case reached =>
    exact ⟨_, runProgram_connectLines ver h, ver', s0, h, runProgram_connectLines ver h⟩
  case connected =>
    obtain ⟨ver', s0, h0, hrun⟩ := h
    obtain rfl : connectedFrom ver s0 = s := ProgramEnd.ended.inj ((runProgram_connectLines ver h0).symm.trans hrun)
    obtain ⟨epoch, inbox, draws, phyOut, busResp, hs0⟩ := h0.exists_eq
    refine ⟨ver', s0, h0, rfl, ?_⟩
    rw [hs0]
    exact ⟨rfl, rfl, rfl⟩
  case line =>
    obtain ⟨u, hu, hsettle⟩ := andThen_eq_next.1 h
    obtain ⟨es, hes, hmem⟩ := settleWithin_performs hsettle
    exact ⟨runLines_cons hl ls h, runLine_settled h, u, es, hu, hes, hmem⟩
  case inFlight =>
    obtain ⟨epoch, inbox, draws, phyOut, busResp, rfl⟩ := h.exists_eq
    exact ⟨_, runLines_cons (by simp) [] (runLine_connect rfl rfl), rfl, rfl⟩
  case goesOn =>
    rw [runProgram, runLines_poll hs, hb]
    rfl
  case waits =>
    have hend : runProgram (.poll :: ls) s = .polling { s with busResp := .data (statusWord s) } := by
      rw [runProgram, runLines_poll hs, hb]
      exact runLines_waiting hb hls
    simp [hend]

end Sys2Proof.Machine
end

section
/-! PROOFS. The frame codec (40_frame_codec.md R401 to R410): what the length field and the checksum say, which images validate,
and what a changed byte does (`Obligations.LengthChecksum`, `Obligations.EncodeLaws`,
`Obligations.ValidateAcceptsExactlyFrames`, `Obligations.ChecksumSensitivity`, `Obligations.LengthFieldFlips`).

`validateImage` has one equation per group of checks of R410. A valid image is well headed (steps 1 to 4), of the length its
LENID declares, and carries its checksum. -/

namespace Sys2Proof.Machine

variable {img body : List Byte} {ver b : Byte}

/-! ### The length field (R401, R402) -/

/-- The length checksum as a number. -/
theorem lchk_toNat (n : Nat) : (lchk n).toNat = (16 - (lenLow n + lenHigh n + n) % 16) % 16 := by
  rw [lchk, BitVec.toNat_ofNat, negMod]
  omega

/-- LENID as a number (30_encoding.md R302). -/
theorem lenId_toNat (hi lo : Byte) : (lenId hi lo).toNat = hi.toNat % 16 * 256 + lo.toNat := by
  have hcat : (lenId hi lo).toNat = (hi.extractLsb' 0 4).toNat <<< 8 + lo.toNat := by
    rw [lenId, BitVec.toNat_append, Nat.shiftLeft_add_eq_or_of_lt lo.isLt]
  rw [hcat, BitVec.extractLsb'_toNat, Nat.shiftLeft_eq]
  simp

/-- The low byte of LENID. -/
theorem lenLow_lenId (hi lo : Byte) : lenLow (lenId hi lo).toNat = lo.toNat := by
  have := lo.isLt
  rw [lenLow, lenId_toNat]
  omega

/-- The high nibble of LENID. -/
theorem lenHigh_lenId (hi lo : Byte) : lenHigh (lenId hi lo).toNat = hi.toNat % 16 := by
  have := lo.isLt
  rw [lenHigh, lenId_toNat]
  omega

/-- The short form of R402 on the bytes of the length field: `-(2·lo + hi)` modulo 16. -/
theorem lchk_lenId (hi lo : Byte) :
    lchk (lenId hi lo).toNat = -(lo.extractLsb' 0 4 + lo.extractLsb' 0 4 + hi.extractLsb' 0 4) := by
  apply BitVec.eq_of_toNat_eq
  rw [lchk_toNat, lenLow_lenId, lenHigh_lenId, lenId_toNat]
  simp only [BitVec.toNat_neg, BitVec.toNat_add, BitVec.extractLsb'_toNat, Nat.shiftRight_zero]
  omega

/-- LENID of a length field is the length. -/
theorem lenId_lenField {n : Nat} (hn : n ≤ 4095) :
    (lenId (lchk n ++ BitVec.ofNat 4 (lenHigh n)) (BitVec.ofNat 8 (lenLow n))).toNat = n := by
  rw [lenId, BitVec.extractLsb'_append_eq_right, BitVec.toNat_append, ← Nat.shiftLeft_add_eq_or_of_lt (BitVec.isLt _)]
  simp only [BitVec.toNat_ofNat, Nat.shiftLeft_eq, lenLow, lenHigh]
  omega

/-- LCHKSUM of a length field is the length's checksum. -/
theorem lchkNibble_lenField (n : Nat) : lchkNibble (lchk n ++ BitVec.ofNat 4 (lenHigh n)) = lchk n :=
  BitVec.extractLsb'_append_eq_left

/-- Two bytes with a right LCHKSUM are the length field of their LENID. -/
theorem lenField_lenId {hi lo : Byte} (h : lchkNibble hi = lchk (lenId hi lo).toNat) :
    lenField (lenId hi lo).toNat = [hi, lo] := by
  have hlow : BitVec.ofNat 8 (lenLow (lenId hi lo).toNat) = lo := by
    rw [lenLow_lenId, BitVec.ofNat_toNat, BitVec.setWidth_eq]
  have hhigh : BitVec.ofNat 4 (lenHigh (lenId hi lo).toNat) = hi.extractLsb' 0 4 := by
    apply BitVec.eq_of_toNat_eq
    rw [BitVec.toNat_ofNat, lenHigh_lenId, BitVec.extractLsb'_toNat, Nat.shiftRight_zero]
    omega
  rw [lenField, hlow, hhigh, ← h, lchkNibble, BitVec.extractLsb'_append_extractLsb'_eq_extractLsb' (by omega),
    BitVec.extractLsb'_eq_self]

/-- Settles O50: `lchk` cancels the three addends by its definition, and 257 is 1 modulo 16. -/
theorem lengthChecksum : Obligations.LengthChecksum := by
  refine ⟨fun n hn => ?_, by decide⟩
  rw [lchk_toNat]
  simp only [lenLow, lenHigh]
  omega

/-! ### Sums (R403) -/

/-- Two byte sequences have the same checksum exactly when their sums agree modulo 65536. -/
theorem chksum_eq_iff (s t : List Byte) : chksum s = chksum t ↔ sumBytes s % 65536 = sumBytes t % 65536 := by
  rw [← BitVec.toNat_inj]
  simp only [chksum, negMod, BitVec.toNat_ofNat]
  omega

/-- Replacing a byte moves the sum by the difference of the two bytes. -/
theorem sumBytes_set {s : List Byte} {i : Nat} (h : i < s.length) (b : Byte) :
    sumBytes (s.set i b) + s[i].toNat = sumBytes s + b.toNat := by
  induction s generalizing i with
  | nil => simp at h
  | cons x s ih =>
    cases i with
    | zero => simp only [List.set_cons_zero, List.getElem_cons_zero, sumBytes]; omega
    | succ i =>
      have := ih (Nat.lt_of_succ_lt_succ h)
      simp only [List.set_cons_succ, List.getElem_cons_succ, sumBytes]
      omega

/-- Replacing a byte by another changes the checksum: the sum moves by less than 256. -/
theorem chksum_set_ne {s : List Byte} {i : Nat} (h : i < s.length) (hb : b ≠ s[i]) : chksum (s.set i b) ≠ chksum s := by
  rw [ne_eq, chksum_eq_iff]
  have hsum := sumBytes_set h b
  have hne : b.toNat ≠ s[i].toNat := fun he => hb (BitVec.eq_of_toNat_eq he)
  have := b.isLt
  have := s[i].isLt
  omega

/-! ### Reading an image by its parts -/

theorem at0_set_same {i : Nat} (h : i < img.length) (b : Byte) : at0 (img.set i b) i = b := by
  simp [at0, h]

theorem at0_set_other {i j : Nat} (h : j ≠ i) (b : Byte) : at0 (img.set i b) j = at0 img j := by
  simp [at0, List.getElem?_set_ne h.symm]

/-- What the checksum covers, of an image cut into SOI, body, checksum and EOI. -/
theorem imgBody_parts (x y z w : Byte) : imgBody (x :: (body ++ [y, z, w])) = body := by
  simp [imgBody]

/-- The received checksum of an image cut that way. -/
theorem imgChk_parts (x y z w : Byte) : imgChk (x :: (body ++ [y, z, w])) = y ++ z := by
  have hlen : (x :: (body ++ [y, z, w])).length = body.length + 4 := by simp
  have hy : at0 (x :: (body ++ [y, z, w])) (body.length + 1) = y := by simp [at0]
  have hz : at0 (x :: (body ++ [y, z, w])) (body.length + 2) = z := by simp [at0]
  rw [imgChk, hlen]
  exact congrArg₂ _ hy hz

/-- The last byte of an image cut that way. -/
theorem at0_last_parts (x y z w : Byte) :
    at0 (x :: (body ++ [y, z, w])) ((x :: (body ++ [y, z, w])).length - 1) = w := by
  simp [at0]

theorem imgBody_length (img : List Byte) : (imgBody img).length = img.length - 4 := by
  rw [imgBody, List.length_take, List.length_drop]
  omega

/-- A byte of the body replaced is a byte of the image replaced. -/
theorem imgBody_set {i : Nat} (h : i + 4 < img.length) (b : Byte) : imgBody (img.set (i + 1) b) = (imgBody img).set i b := by
  cases img with
  | nil => simp at h
  | cons x img => simp [imgBody, List.take_set]

/-- A byte of the body replaced by another changes the computed checksum. -/
theorem chksum_imgBody_set_ne {i : Nat} (h : i + 4 < img.length) (hb : b ≠ at0 img (i + 1)) :
    chksum (imgBody (img.set (i + 1) b)) ≠ chksum (imgBody img) := by
  have hi : i < (imgBody img).length := by rw [imgBody_length]; omega
  have hget : (imgBody img)[i] = at0 img (i + 1) := by simp [imgBody, at0, show i + 1 < img.length by omega]
  rw [imgBody_set h]
  exact chksum_set_ne hi (by rw [hget]; exact hb)

/-- A byte of the body replaced leaves the received checksum alone. -/
theorem imgChk_set {i : Nat} (h : i + 3 < img.length) (b : Byte) : imgChk (img.set i b) = imgChk img := by
  rw [imgChk, imgChk, List.length_set, at0_set_other (by omega), at0_set_other (by omega)]

/-! ### Validation (R410) -/

/-- Step 1 of R410 passes: the image is not empty and has both markers. -/
structure Marked (img : List Byte) : Prop where
  nonempty : img.length ≠ 0
  soi : at0 img 0 = soi
  eoi : at0 img (img.length - 1) = eoi

/-- Steps 1 to 4 of R410 pass: markers, minimum length, version, and the length field's own checksum. -/
structure WellHeaded (img : List Byte) (ver : Byte) : Prop extends Marked img where
  long : minFrame ≤ img.length
  version : at0 img 1 = ver
  nibble : lchkNibble (at0 img 5) = lchk (lenId (at0 img 5) (at0 img 6)).toNat

theorem validateImage_of_not_marked (h : ¬Marked img) (ver : Byte) : validateImage img ver = (codeMalformedMarker, false) := by
  unfold validateImage
  rw [if_pos]
  by_contra hn
  simp only [not_or, not_not] at hn
  obtain ⟨h0, h1, h2⟩ := hn
  exact h ⟨h0, h1, h2⟩

/-- With its markers right an image goes on to step 2. -/
theorem Marked.validateImage (h : Marked img) (ver : Byte) :
    validateImage img ver =
      if img.length < minFrame then (codeLchksumMismatch, true)
      else if at0 img 1 ≠ ver then (codeVersionMismatch, false)
      else if lchkNibble (at0 img 5) ≠ lchk (lenId (at0 img 5) (at0 img 6)).toNat then (codeLchksumMismatch, false)
      else if img.length ≠ minFrame + (lenId (at0 img 5) (at0 img 6)).toNat then (codeLchksumMismatch, true)
      else if imgChk img ≠ chksum (imgBody img) then (codeChecksumMismatch, false)
      else (codeOk, false) := by
  unfold Machine.validateImage
  rw [if_neg]
  rintro (h0 | h0 | h0)
  exacts [h.nonempty h0, h0 h.soi, h0 h.eoi]

/-- A well headed image is judged by its total length and its checksum alone, steps 5 and 6. -/
theorem WellHeaded.validateImage (h : WellHeaded img ver) :
    validateImage img ver =
      if img.length ≠ minFrame + (lenId (at0 img 5) (at0 img 6)).toNat then (codeLchksumMismatch, true)
      else if imgChk img ≠ chksum (imgBody img) then (codeChecksumMismatch, false)
      else (codeOk, false) := by
  rw [h.toMarked.validateImage, if_neg (not_lt.2 h.long), if_neg (not_not.2 h.version), if_neg (not_not.2 h.nibble)]

/-- What step 7 of R410 is reached by. -/
structure ValidImage (img : List Byte) (ver : Byte) : Prop extends WellHeaded img ver where
  total : img.length = minFrame + (lenId (at0 img 5) (at0 img 6)).toNat
  checksum : imgChk img = chksum (imgBody img)

theorem ValidImage.validateImage (h : ValidImage img ver) : validateImage img ver = (codeOk, false) := by
  rw [h.toWellHeaded.validateImage, if_neg (not_not.2 h.total), if_neg (not_not.2 h.checksum)]

/-- OK is answered for valid images alone. -/
theorem validImage_of_codeOk (h : (validateImage img ver).1 = codeOk) : ValidImage img ver := by
  by_cases hm : Marked img
  · rw [hm.validateImage] at h
    split_ifs at h with h1 h2 h3 h4 h5
    · exact absurd h (by decide)
    · exact absurd h (by decide)
    · exact absurd h (by decide)
    · exact absurd h (by decide)
    · exact absurd h (by decide)
    · exact ⟨⟨hm, not_lt.1 h1, not_not.1 h2, not_not.1 h3⟩, not_not.1 h4, not_not.1 h5⟩
  · rw [validateImage_of_not_marked hm] at h
    exact absurd h (by decide)

/-- An image stays well headed when a byte from LEN_LO on, but not EOI, is replaced and LCHKSUM still fits. -/
theorem WellHeaded.set {i : Nat} (h : WellHeaded img ver) (hlo : 6 ≤ i) (hhi : i + 1 < img.length)
    (hn : lchkNibble (at0 img 5) = lchk (lenId (at0 img 5) (at0 (img.set i b) 6)).toNat) : WellHeaded (img.set i b) ver where
  nonempty := by rw [List.length_set]; exact h.nonempty
  soi := by rw [at0_set_other (by omega)]; exact h.soi
  eoi := by rw [List.length_set, at0_set_other (by omega)]; exact h.eoi
  long := by rw [List.length_set]; exact h.long
  version := by rw [at0_set_other (by omega)]; exact h.version
  nibble := by rw [at0_set_other (i := i) (j := 5) (by omega)]; exact hn

/-! ### Encoded frames (R404, R405) -/

/-- A frame cut into SOI, body, checksum and EOI. -/
theorem encodeFrame_parts (ver adr c1 c2 : Byte) (p : List Byte) :
    encodeFrame ver adr c1 c2 p = soi :: (frameBody ver adr c1 c2 p ++
      [(chksum (frameBody ver adr c1 c2 p)).extractLsb' 8 8, (chksum (frameBody ver adr c1 c2 p)).extractLsb' 0 8, eoi]) := by
  simp [encodeFrame, bigEndian]

/-- Every encoded frame is valid for its own version (R405). -/
theorem validImage_encodeFrame (ver adr c1 c2 : Byte) {p : List Byte} (hp : p.length ≤ 4095) :
    ValidImage (encodeFrame ver adr c1 c2 p) ver where
  nonempty := by simp [minFrame]
  soi := rfl
  eoi := by rw [encodeFrame_parts, at0_last_parts]
  long := by simp
  version := rfl
  nibble := by
    change lchkNibble (lchk p.length ++ BitVec.ofNat 4 (lenHigh p.length)) = lchk
      (lenId (lchk p.length ++ BitVec.ofNat 4 (lenHigh p.length)) (BitVec.ofNat 8 (lenLow p.length))).toNat
    rw [lchkNibble_lenField, lenId_lenField hp]
  total := by
    rw [encodeFrame_length]
    exact congrArg _ (lenId_lenField hp).symm
  checksum := by
    rw [encodeFrame_parts, imgBody_parts, imgChk_parts, BitVec.extractLsb'_append_extractLsb'_eq_extractLsb' (by omega),
      BitVec.extractLsb'_eq_self]

/-- An image of at least the minimum length, cut into its header, what its LENID can count, its checksum and its EOI. -/
theorem exists_parts (h : minFrame ≤ img.length) : ∃ b0 b1 b2 b3 b4 b5 b6 p x y z,
    img = b0 :: ([b1, b2, b3, b4, b5, b6] ++ p ++ [x, y, z]) := by
  simp only [minFrame] at h
  obtain ⟨x, y, z, hend⟩ := List.length_eq_three.1 (show (img.drop (img.length - 3)).length = 3 by simp; omega)
  rw [← List.take_append_drop (img.length - 3) img, hend]
  have hlen : 7 ≤ (img.take (img.length - 3)).length := by simp; omega
  match img.take (img.length - 3), hlen with
  | b0 :: b1 :: b2 :: b3 :: b4 :: b5 :: b6 :: p, _ => exact ⟨b0, b1, b2, b3, b4, b5, b6, p, x, y, z, rfl⟩

/-- Every valid image is an encoded frame: its version, header and payload are read off, its length field, checksum and markers
are the ones `encode` puts there. -/
theorem ValidImage.exists_encodeFrame (h : ValidImage img ver) :
    ∃ adr c1 c2 p, p.length ≤ 4095 ∧ img = encodeFrame ver adr c1 c2 p := by
  obtain ⟨b0, b1, adr, c1, c2, hi, lo, p, x, y, z, rfl⟩ := exists_parts h.long
  have hsoi : b0 = soi := h.soi
  have hver : b1 = ver := h.version
  have heoi : z = eoi := by rw [← at0_last_parts b0 x y z]; exact h.eoi
  have htotal := h.total
  have hlenId : p.length = (lenId hi lo).toNat := by
    simp only [List.length_cons, List.length_append, List.length_nil, minFrame] at htotal
    change _ = 10 + (lenId hi lo).toNat at htotal
    omega
  have hfield : lenField p.length = [hi, lo] := by rw [hlenId]; exact lenField_lenId h.nibble
  have hbody : frameBody ver adr c1 c2 p = [b1, adr, c1, c2, hi, lo] ++ p := by rw [frameBody, hfield, hver]; rfl
  have hchk : chksum (frameBody ver adr c1 c2 p) = x ++ y := by
    have := h.checksum
    rw [imgChk_parts, imgBody_parts] at this
    rw [hbody, this]
  refine ⟨adr, c1, c2, p, hlenId ▸ lenId_le hi lo, ?_⟩
  rw [encodeFrame_parts, hchk, BitVec.extractLsb'_append_eq_left, BitVec.extractLsb'_append_eq_right, hbody, hsoi, heoi]

/-! ### Flipped bits (R408, R409) -/

/-- A flipped bit makes another byte. -/
theorem flip_ne (b : Byte) {k : Nat} (hk : k < 8) : b ^^^ (1#8 <<< k) ≠ b := by
  have hbit : ∀ k < 8, 1#8 <<< k ≠ 0#8 := by decide
  exact fun h => hbit k hk (by simpa using h)

/-- A change in `hi[3:0]` changes the length checksum (R409). -/
theorem lchk_xor_hi_ne {hi lo m : Byte} (hm : m.extractLsb' 0 4 ≠ 0#4) :
    lchk (lenId (hi ^^^ m) lo).toNat ≠ lchk (lenId hi lo).toNat := by
  rw [lchk_lenId, lchk_lenId, ne_eq, BitVec.neg_inj, BitVec.add_right_inj, BitVec.extractLsb'_xor]
  exact fun h => hm (by simpa using h)

/-- A change in `lo` changes the length checksum exactly when twice its low nibble changes (R409). -/
theorem lchk_xor_lo_eq_iff (hi lo m : Byte) :
    lchk (lenId hi (lo ^^^ m)).toNat = lchk (lenId hi lo).toNat ↔ m.extractLsb' 0 4 &&& 7#4 = 0#4 := by
  have hdouble : ∀ x y : BitVec 4, (x ^^^ y) + (x ^^^ y) = x + x ↔ y &&& 7#4 = 0#4 := by decide
  rw [lchk_lenId, lchk_lenId, BitVec.neg_inj, BitVec.add_left_inj, BitVec.extractLsb'_xor]
  exact hdouble _ _

/-- A flipped bit of `lo` changes LENID. -/
theorem lenId_flip_ne (hi lo : Byte) {j : Nat} (hj : j < 8) :
    (lenId hi (lo ^^^ (1#8 <<< j))).toNat ≠ (lenId hi lo).toNat := by
  rw [lenId_toNat, lenId_toNat, ne_eq, Nat.add_left_cancel_iff, BitVec.toNat_inj]
  exact flip_ne lo hj

/-! ### The statements -/

/-- Settles O51: a frame is cut into its parts, and is valid. -/
theorem encodeLaws : Obligations.EncodeLaws := by
  intro ver adr c1 c2 p hp
  refine ⟨encodeFrame_length .., rfl, ?_, (validImage_encodeFrame ver adr c1 c2 hp).validateImage, rfl, rfl, ?_⟩
  · exact List.getLast?_concat
  · change ((p ++ bigEndian _) ++ [eoi]).take p.length = p
    rw [List.append_assoc, List.take_left]

/-- Settles O52: the valid images of a version are its encoded frames. -/
theorem validateAcceptsExactlyFrames : Obligations.ValidateAcceptsExactlyFrames := by
  intro img ver
  constructor
  · exact fun h => (validImage_of_codeOk h).exists_encodeFrame
  · rintro ⟨adr, c1, c2, p, hp, rfl⟩
    rw [(validImage_encodeFrame ver adr c1 c2 hp).validateImage]
    rfl

/-- Settles O53: the checks before the checksum read no payload byte, and another byte in the body changes its checksum. -/
theorem checksumSensitivity : Obligations.ChecksumSensitivity := by
  intro img ver i k hok hi hk
  have hv : ValidImage img ver := validImage_of_codeOk (by rw [hok]; rfl)
  have h6 (b : Byte) : at0 (img.set (7 + i) b) 6 = at0 img 6 := at0_set_other (by omega) b
  have hh : WellHeaded (img.set (7 + i) (img.getD (7 + i) 0#8 ^^^ (1#8 <<< k))) ver :=
    hv.toWellHeaded.set (by omega) (by omega) (by rw [h6]; exact hv.nibble)
  rw [hh.validateImage, if_neg, if_pos]
  · rfl
  · rw [imgChk_set (by omega), hv.checksum, Nat.add_comm 7 i]
    exact (chksum_imgBody_set_ne (i := i + 6) (by omega) (flip_ne _ hk)).symm
  · rw [List.length_set, at0_set_other (by omega), h6]
    exact not_not.2 hv.total

/-- Settles O54: in the short form of the length checksum `hi` stands once and `lo` twice, so that a bit of `lo` is lost from
bit 3 on; LENID itself sees every bit. -/
theorem lengthFieldFlips : Obligations.LengthFieldFlips := by
  have hlow : ∀ j < 4, (1#8 <<< j).extractLsb' 0 4 ≠ 0#4 := by decide
  have hhigh : ∀ j < 4, (1#8 <<< (4 + j)).extractLsb' 0 4 = 0#4 ∧ (1#8 <<< (4 + j)).extractLsb' 4 4 ≠ 0#4 := by decide
  have hkept : ∀ j < 8, 3 ≤ j → (1#8 <<< j).extractLsb' 0 4 &&& 7#4 = 0#4 := by decide
  have hlost : ∀ j < 3, (1#8 <<< j).extractLsb' 0 4 &&& 7#4 ≠ 0#4 := by decide
  refine ⟨fun hi lo j hj => lchk_xor_hi_ne (hlow j hj), fun hi lo j hj hok => ?nibble,
    fun hi lo j h3 hj => (lchk_xor_lo_eq_iff ..).2 (hkept j hj h3),
    fun hi lo j hj h => hlost j hj ((lchk_xor_lo_eq_iff ..).1 h), by decide, by decide, by decide,
    fun img ver j hok h3 hj => ?total, fun hi lo j hj h => ?declared⟩
  case nibble =>
    obtain ⟨hid, hne⟩ := hhigh j hj
    have hlenId : lenId (hi ^^^ (1#8 <<< (4 + j))) lo = lenId hi lo := by
      rw [lenId, BitVec.extractLsb'_xor, hid, BitVec.xor_zero, lenId]
    rw [hlenId, ← hok, lchkNibble, BitVec.extractLsb'_xor]
    exact fun h => hne (by simpa [lchkNibble] using h)
  case total =>
    have hv : ValidImage img ver := validImage_of_codeOk (by rw [hok]; rfl)
    have hlong := hv.long
    simp only [minFrame] at hlong
    have h6 : at0 (img.set 6 (img.getD 6 0#8 ^^^ (1#8 <<< j))) 6 = at0 img 6 ^^^ (1#8 <<< j) := at0_set_same (by omega) _
    have hh : WellHeaded (img.set 6 (img.getD 6 0#8 ^^^ (1#8 <<< j))) ver :=
      hv.toWellHeaded.set le_rfl (by omega) (by rw [h6, (lchk_xor_lo_eq_iff ..).2 (hkept j hj h3)]; exact hv.nibble)
    rw [hh.validateImage, if_pos]
    · rfl
    · rw [List.length_set, at0_set_other (by omega), h6, hv.total]
      exact fun h => lenId_flip_ne _ _ hj (Nat.add_left_cancel h).symm
  case declared => exact lenId_flip_ne hi lo hj (Nat.add_left_cancel h)

end Sys2Proof.Machine
end

section
/-! PROOFS. The two commands that use no link, NOP and VALIDATE (40_frame_codec.md R420, R425): `Obligations.NopCommand`,
`Obligations.ValidateCommand`, `Obligations.FrameNopValidate`. -/

namespace Sys2Proof.Machine

variable {s t : State} {img : List Byte} {ver : Byte}

/-! ### What the two commands answer -/

/-- A command that finishes in the step that accepts it leaves what `endedWith` says (41_transport.md R510, R520). -/
theorem finish_acceptCommand (op : BitVec 4) (code : Byte) (s : State) :
    finish code (acceptCommand op s) = endedWith op code (finishFlags code) s := rfl

theorem finishFlags_eq (code : Byte) : finishFlags code = if code = 0x00#8 then 0x01#6 else 0x03#6 := rfl

theorem exec_nop_idle (h : s.status.busy = false) : exec .nop s = .next s := by
  simp [exec, execNop, h]

theorem exec_nop_busy (h : s.status.busy = true) : exec .nop s = .next (rejectCommand s) := by
  simp [exec, execNop, h]

theorem exec_validate_idle (h : s.status.busy = false) :
    exec .validate s = .next (validateRxbuf (acceptCommand opValidate s)) := by
  simp [exec, execValidate, h]

theorem exec_validate_busy (h : s.status.busy = true) : exec .validate s = .next (rejectCommand s) := by
  simp [exec, execValidate, h]

/-- A frame length above MAX_FRAME is not validated (R420). -/
theorem validateRxbuf_of_overflow (h : maxFrame < rxFlenNat s) : validateRxbuf s = finish codeLengthOverflow s := if_pos h

/-- RXBUF[0 .. RX_FLEN-1] is validated (R420). -/
theorem validateRxbuf_of_le (h : rxFlenNat s ≤ maxFrame) :
    validateRxbuf s = finish (validateImage (rxImage s (rxFlenNat s)) s.regs.cfgVer).1 { s with
      result := { s.result with lenErrKind := (validateImage (rxImage s (rxFlenNat s)) s.regs.cfgVer).2 } } :=
  if_neg (not_lt.2 h)

/-! ### The corner cases of R420 -/

theorem validateImage_of_length_zero (h : img.length = 0) (ver : Byte) :
    validateImage img ver = (codeMalformedMarker, false) :=
  validateImage_of_not_marked (fun hm => hm.nonempty h) ver

/-- One byte cannot be both markers. -/
theorem validateImage_of_length_one (h : img.length = 1) (ver : Byte) :
    validateImage img ver = (codeMalformedMarker, false) := by
  refine validateImage_of_not_marked (fun hm => ?_) ver
  have heoi := hm.eoi
  rw [h, hm.soi] at heoi
  exact absurd heoi (by decide)

theorem Marked.validateImage_of_short (hm : Marked img) (h : img.length < minFrame) (ver : Byte) :
    Machine.validateImage img ver = (codeLchksumMismatch, true) := by
  rw [hm.validateImage, if_pos h]

theorem Marked.validateImage_of_version (hm : Marked img) (h : minFrame ≤ img.length) (hv : at0 img 1 ≠ ver) :
    Machine.validateImage img ver = (codeVersionMismatch, false) := by
  rw [hm.validateImage, if_neg (not_lt.2 h), if_pos hv]

/-- The image of RXBUF passes step 1 of R410 when its first and last bytes are the markers. -/
theorem marked_rxImage {n : Nat} (hn : 0 < n) (h0 : rxbuf s 0 = soi) (h1 : rxbuf s (n - 1) = eoi) : Marked (rxImage s n) where
  nonempty := by rw [rxImage_length]; exact hn.ne'
  soi := by rw [at0_rxImage s hn, h0]
  eoi := by rw [rxImage_length, at0_rxImage s (by omega), h1]

/-! ### What the two commands leave unchanged -/

/-- What NOP and VALIDATE can change: RESULT, the fields of STATUS that a completion sets, and the flags of a completion or a
rejection. -/
def CodecCommandKeeps (s t : State) : Prop :=
  ∃ result busy phase rxst op fl, fl &&& 0x2C#6 = 0#6 ∧ t = { s with
    result := result
    status := { s.status with busy := busy, phase := phase, rxst := rxst, op := op }
    intStatus := s.intStatus ||| fl }

theorem codecCommandKeeps_refl (s : State) : CodecCommandKeeps s s :=
  ⟨_, _, _, _, _, 0#6, by decide, by rw [BitVec.or_zero]⟩

theorem codecCommandKeeps_rejectCommand (s : State) : CodecCommandKeeps s (rejectCommand s) :=
  ⟨_, _, _, _, _, flagCmdRej, by decide, rfl⟩

theorem codecCommandKeeps_validateRxbuf (s : State) : CodecCommandKeeps s (validateRxbuf (acceptCommand opValidate s)) := by
  have hflags (code : Byte) : finishFlags code &&& 0x2C#6 = 0#6 := by
    rw [finishFlags_eq]
    split_ifs <;> decide
  obtain h | h := Nat.lt_or_ge maxFrame (rxFlenNat (acceptCommand opValidate s))
  · rw [validateRxbuf_of_overflow h]
    exact ⟨_, _, _, _, _, _, hflags _, rfl⟩
  · rw [validateRxbuf_of_le h]
    exact ⟨_, _, _, _, _, _, hflags _, rfl⟩

/-- NOP and VALIDATE do nothing, reject, or validate. -/
theorem codecCommandKeeps_of_exec (h : exec .nop s = .next t ∨ exec .validate s = .next t) : CodecCommandKeeps s t := by
  obtain hb | hb := Bool.eq_false_or_eq_true s.status.busy
  · rw [exec_nop_busy hb, exec_validate_busy hb, or_self] at h
    cases h
    exact codecCommandKeeps_rejectCommand s
  · rw [exec_nop_idle hb, exec_validate_idle hb] at h
    obtain h | h := h <;> cases h
    · exact codecCommandKeeps_refl s
    · exact codecCommandKeeps_validateRxbuf s

/-! ### The statements -/

/-- Settles O10: NOP looks at BUSY alone, and the only instruction with opcode 0 is NOP. -/
theorem nopCommand : Obligations.NopCommand := by
  refine ⟨rfl, fun s => exec_nop_idle, fun s => exec_nop_busy, fun w hop hw => ?_⟩
  rw [← Bool.not_eq_true, wordLegal_iff_exists_encode]
  rintro ⟨i, rfl⟩
  have hi : i.opcode = 0x0#4 := (encode_fields i).1.symm.trans hop
  cases i with
  | nop => exact hw rfl
  | _ => exact absurd hi (by simp [Instr.opcode])

/-- Settles O11: VALIDATE on each side of MAX_FRAME, and its corner cases by the first check of R410 that fails. -/
theorem validateCommand : Obligations.ValidateCommand := by
  refine ⟨rfl, fun s hb h => ?_, fun s hb h => ⟨?_, fun h0 => ?_, fun h1 _ => ?_, fun h2 h9 hs he => ?_,
    fun h10 hs he hv => ?_, ?_⟩, by decide⟩
  · rw [exec_validate_idle hb, validateRxbuf_of_overflow (s := acceptCommand opValidate s) h, finish_acceptCommand]
    rfl
  · rw [exec_validate_idle hb, validateRxbuf_of_le (s := acceptCommand opValidate s) h]
    rfl
  · exact validateImage_of_length_zero ((rxImage_length ..).trans h0) _
  · exact validateImage_of_length_one ((rxImage_length ..).trans h1) _
  · exact (marked_rxImage (by omega) hs he).validateImage_of_short (by rw [rxImage_length]; exact Nat.lt_succ_of_le h9) _
  · refine (marked_rxImage (by omega) hs he).validateImage_of_version (by rw [rxImage_length]; exact h10) ?_
    rw [at0_rxImage s (by omega)]
    exact hv
  · obtain hv | hv | hv | hv | ⟨kind, hv⟩ := validateImage_cases (rxImage s s.rxFlen.toNat) s.regs.cfgVer <;>
      simp only [hv] <;> decide

/-- Settles O16: everything outside RESULT, STATUS and INT_STATUS is untouched, and of the flags only DONE, ERR and CMD_REJ
can be set. -/
theorem frameNopValidate : Obligations.FrameNopValidate := by
  intro s t h
  obtain ⟨result, busy, phase, rxst, op, fl, hfl, rfl⟩ := codecCommandKeeps_of_exec h
  refine ⟨rfl, rfl, rfl, rfl, ?_, rfl, rfl, rfl, rfl, rfl, rfl, rfl, rfl, rfl, rfl, rfl, fun a => rfl⟩
  rw [BitVec.and_or_distrib_right, hfl, BitVec.or_zero]

end Sys2Proof.Machine
end

section
/-! PROOFS. RECEIVE finds a frame in the stream and stores it (41_transport.md R514, R540 to R544):
`Obligations.ReceiveReconstructsAFrame`.

The run is two stretches of `rx_consume` and a last one: `skippedTo i` is the state after `i` skipped bytes, `collectedTo f i`
the one after `i` stored bytes of the frame `f`, and the last byte completes the frame, which is valid. -/

namespace Sys2Proof.Machine

variable {s t : State} {b : Byte} {f rest : List Byte} {i : Nat}

/-! ### Runs of chosen steps (10_state.md R105) -/

/-- A run goes on from the state its first step answers. -/
theorem run_succ (M : Host.Core) {s t : M.State} (h : M.step s = .next t) (k : Nat) : M.run (k + 1) s = M.run k t := by
  rw [Host.Core.run, h]

/-- A run whose next choice is no tick performs that choice and goes on. -/
theorem runSteps_cons {e : Event} {es : List Event} (he : e ≠ .tick) (h : perform e { s with inbox := es } = .next t)
    (ht : t.inbox = es) (k : Nat) : runSteps (e :: es) (k + 1) s = runSteps es k t := by
  have hstep : step { s with inbox := e :: es } = .next t := (step_perform (s := { s with inbox := e :: es }) (.inl he)).trans h
  subst ht
  exact run_succ Sys2Proof.core hstep k

/-- A stretch of `rx_consume` steps; `g i s` is the state after `i` of them, whatever choices wait. -/
theorem runSteps_rxConsume {m : Nat} (g : Nat → State → State) (s : State)
    (hg : ∀ i es, (g i { s with inbox := es }).inbox = es ∧ { g i s with inbox := es } = g i { s with inbox := es })
    (hstep : ∀ i < m, ∀ es, rxConsumeEnabled (g i { s with inbox := es }) = true ∧
      rxConsume (g i { s with inbox := es }) = .next (g (i + 1) { s with inbox := es })) (es : List Event) (k : Nat) :
    runSteps (List.replicate m .rxConsume ++ es) (m + k) (g 0 s) = runSteps es k (g m s) := by
  induction m generalizing es k with
  | zero => rw [Nat.zero_add]; rfl
  | succ m ih =>
    obtain ⟨hen, hrx⟩ := hstep m (Nat.lt_succ_self m) es
    have hperform : perform .rxConsume { g m s with inbox := es } = .next (g (m + 1) { s with inbox := es }) := by
      rw [(hg m es).2, perform, if_pos hen, hrx]
    calc runSteps (List.replicate (m + 1) .rxConsume ++ es) (m + 1 + k) (g 0 s)
        = runSteps (List.replicate m .rxConsume ++ .rxConsume :: es) (m + (k + 1)) (g 0 s) := by
          rw [List.replicate_succ', List.append_assoc, Nat.add_right_comm, Nat.add_assoc]; rfl
      _ = runSteps (.rxConsume :: es) (k + 1) (g m s) := ih (fun i hi => hstep i (Nat.lt_succ_of_lt hi)) _ _
      _ = runSteps es k (g (m + 1) { s with inbox := es }) := runSteps_cons (by simp) hperform (hg (m + 1) es).1 k
      _ = runSteps es k (g (m + 1) s) := by rw [runSteps, ← (hg (m + 1) es).2]; rfl

/-! ### One consumed byte (41_transport.md R540, R541) -/

theorem rxConsumeEnabled_of_cons (hp : s.status.phase = .rx) (hf : s.fifo = b :: rest) : rxConsumeEnabled s = true := by
  simp [rxConsumeEnabled, hp, hf]

theorem rxConsume_of_hunt (hr : s.status.rxst = .hunt) (hf : s.fifo = b :: rest) :
    rxConsume s = .next (hunt b (popFifo rest s)) := by
  simp [rxConsume, hf, hr]

theorem rxConsume_of_collect (hr : s.status.rxst = .collect) (hf : s.fifo = b :: rest) :
    rxConsume s = collect b (popFifo rest s) := by
  simp [rxConsume, hf, hr]

/-- A RECEIVE hunts for a frame, and the byte timer has just been cleared. -/
structure State.Hunting (s : State) : Prop where
  phase : s.status.phase = .rx
  rxst : s.status.rxst = .hunt
  op : s.status.op = opReceive
  idx : s.rx.idx = 0
  byteTimer : s.timers.byte = 0#16

/-- The byte of the FIFO that is consumed next, where the FIFO begins with `f`. -/
theorem drop_eq_at0_cons {l : List Byte} (hl : l = f ++ rest) (hi : i < f.length) : l.drop i = at0 f i :: l.drop (i + 1) := by
  have hlt : i < l.length := by rw [hl, List.length_append]; omega
  have hget : l[i] = at0 f i := by simp [hl, at0, List.getElem_append_left, hi]
  rw [List.drop_eq_getElem_cons hlt, hget]

/-! ### Skipped bytes (41_transport.md R541) -/

/-- The state after `i` bytes of the FIFO have been skipped in a hunt. -/
def skippedTo (i : Nat) (s : State) : State :=
  { s with
    fifo := s.fifo.drop i
    timers := { s.timers with byte := 0#16 }
    counters := { s.counters with skip := s.counters.skip + BitVec.ofNat 16 i } }

theorem State.Hunting.timers (h : s.Hunting) : { s.timers with byte := 0#16 } = s.timers := by rw [← h.byteTimer]

theorem skippedTo_zero (h : s.Hunting) : skippedTo 0 s = s := by
  rw [skippedTo, h.timers]
  simp

theorem State.Hunting.skippedTo (h : s.Hunting) (i : Nat) : (skippedTo i s).Hunting :=
  ⟨h.phase, h.rxst, h.op, h.idx, rfl⟩

/-- A byte that is not SOI is skipped. -/
theorem rxConsume_skippedTo (h : s.Hunting) (hf : s.fifo.drop i = b :: s.fifo.drop (i + 1)) (hb : b ≠ soi) :
    rxConsume (skippedTo i s) = .next (skippedTo (i + 1) s) := by
  rw [rxConsume_of_hunt (s := skippedTo i s) h.rxst hf, hunt, if_neg hb]
  simp only [skippedTo, popFifo, countSkip, BitVec.ofNat_add, BitVec.add_assoc]

/-- The bytes before the first SOI are skipped. -/
theorem runSteps_skipped {skipped : List Byte} (h : s.Hunting) (hf : s.fifo = skipped ++ rest)
    (hs : ∀ b ∈ skipped, b ≠ soi) (es : List Event) (k : Nat) :
    runSteps (List.replicate skipped.length .rxConsume ++ es) (skipped.length + k) s =
      runSteps es k (skippedTo skipped.length s) := by
  have hrun := runSteps_rxConsume (m := skipped.length) skippedTo s (fun _ _ => ⟨rfl, rfl⟩) (fun i hi es => ?step) es k
  case step =>
    have hdrop := drop_eq_at0_cons hf hi
    have hmem : at0 skipped i ∈ skipped := by simp [at0, hi]
    have hw : State.Hunting { s with inbox := es } := { h with }
    exact ⟨rxConsumeEnabled_of_cons (s := skippedTo i { s with inbox := es }) h.phase hdrop,
      rxConsume_skippedTo hw hdrop (hs _ hmem)⟩
  rwa [skippedTo_zero h] at hrun

/-! ### Stored bytes (41_transport.md R542) -/

/-- Buffer memory with the first bytes of `f` written from offset `a` on. -/
def memPut (m : Memory) (a : Nat) (f : List Byte) : Nat → Memory
  | 0 => m
  | i + 1 => memSet (memPut m a f i) (a + i) (at0 f i)

theorem memGet_memPut (m : Memory) (a : Nat) (f : List Byte) (i x : Nat) :
    memGet (memPut m a f i) x = if a ≤ x ∧ x < a + i then some (at0 f (x - a)) else memGet m x := by
  induction i with
  | zero => rw [memPut, if_neg (by omega)]
  | succ i ih =>
    rw [memPut]
    by_cases hx : x = a + i
    · rw [hx, memGet_memSet_same, if_pos (by omega), Nat.add_sub_cancel_left]
    · rw [memGet_memSet_other _ _ hx, ih]
      congr 1
      simp only [eq_iff_iff]
      omega

/-- The state after `i` bytes of the frame `f` have been stored. -/
def collectedTo (f : List Byte) (i : Nat) (s : State) : State :=
  { s with
    status := { s.status with rxst := if i = 0 then .hunt else .collect }
    rx := { idx := i, need := if i < 7 then s.rx.need else f.length }
    fifo := s.fifo.drop i
    mem := memPut s.mem rxBase f i
    timers := { s.timers with byte := 0#16 } }

theorem collectedTo_zero (h : s.Hunting) (f : List Byte) : collectedTo f 0 s = s := by
  have hstatus : { s.status with rxst := .hunt } = s.status := by rw [← h.rxst]
  have hrx : { s.rx with idx := 0 } = s.rx := by rw [← h.idx]
  rw [collectedTo, memPut, h.timers, if_pos rfl, if_pos (by decide), hstatus, hrx]
  rfl

theorem byteAt_collectedTo (f : List Byte) (i : Nat) (s : State) (a : Nat) : byteAt (collectedTo f i s) a =
    if rxBase ≤ a ∧ a < rxBase + i then at0 f (a - rxBase) else byteAt s a := by
  have hget : byteAt (collectedTo f i s) a = (memGet (memPut s.mem rxBase f i) a).getD (Config.bufDraw s.epoch a) := rfl
  rw [hget, memGet_memPut]
  split_ifs <;> rfl

theorem rxbuf_collectedTo {j : Nat} (h : j < i) : rxbuf (collectedTo f i s) j = at0 f j := by
  rw [rxbuf, byteAt_collectedTo, if_pos (by omega), Nat.add_sub_cancel_left]

/-- With all bytes stored, RXBUF holds the frame. -/
theorem rxImage_collectedTo (f : List Byte) (s : State) : rxImage (collectedTo f f.length s) f.length = f := by
  apply List.ext_getElem
  · rw [rxImage_length]
  · intro j h1 h2
    have hj := at0_rxImage (collectedTo f f.length s) h2
    rw [rxbuf_collectedTo h2] at hj
    simpa [at0, h1, h2] using hj

/-- SOI starts the frame. -/
theorem rxConsume_collectedTo_zero (hsoi : at0 f 0 = soi) (hf : s.fifo = at0 f 0 :: rest) :
    rxConsume (collectedTo f 0 s) = .next (collectedTo f 1 s) := by
  rw [rxConsume_of_hunt (s := collectedTo f 0 s) rfl hf, hunt, if_pos hsoi]
  have hrest : s.fifo.drop 1 = rest := by rw [hf]; rfl
  simp [collectedTo, popFifo, putByte, memPut, hrest]

/-- The next byte of the frame is stored, and the seventh settles rx_need at the frame's length. -/
theorem storeByte_collectedTo (hneed : f.length = minFrame + (lenId (at0 f 5) (at0 f 6)).toNat) (hi : i ≠ 0) (s : State) :
    storeByte (at0 f i) (popFifo (s.fifo.drop (i + 1)) (collectedTo f i s)) = collectedTo f (i + 1) s := by
  obtain ⟨need, hst, h7, hn7⟩ := storeByte_eq (at0 f i) (popFifo (s.fifo.drop (i + 1)) (collectedTo f i s))
  have hn : need = if i + 1 < 7 then s.rx.need else f.length := by
    by_cases h6 : i = 6
    · subst h6
      have hhi := rxbuf_storeByte (at0 f 6) (popFifo (s.fifo.drop 7) (collectedTo f 6 s)) 5
      have hlo := rxbuf_storeByte (at0 f 6) (popFifo (s.fifo.drop 7) (collectedTo f 6 s)) 6
      rw [h7 rfl, hhi.trans (rxbuf_collectedTo (i := 6) (by omega)), hlo.trans (if_pos rfl), ← hneed]
      rfl
    · have hold : need = if i < 7 then s.rx.need else f.length := hn7 (fun h => h6 (Nat.succ_injective h))
      rw [hold]
      congr 1
      simp only [eq_iff_iff]
      omega
  rw [hst, hn]
  simp [collectedTo, popFifo, putByte, memPut, hi]

/-- A byte of the frame after SOI is stored, and the last one stands at the EOI position. -/
theorem rxConsume_collectedTo (hneed : f.length = minFrame + (lenId (at0 f 5) (at0 f 6)).toNat) (hf : s.fifo = f ++ rest)
    (hi0 : i ≠ 0) (hi : i < f.length) : rxConsume (collectedTo f i s) =
      if i + 1 = f.length then endOfFrame (at0 f i) (collectedTo f (i + 1) s) else .next (collectedTo f (i + 1) s) := by
  have hlen := lenId_le (at0 f 5) (at0 f 6)
  simp only [minFrame, maxLen] at hneed hlen
  have hdrop : (collectedTo f i s).fifo = at0 f i :: s.fifo.drop (i + 1) := drop_eq_at0_cons hf hi
  have hend : (minFrame ≤ i + 1 ∧ i + 1 = if i + 1 < 7 then s.rx.need else f.length) ↔ i + 1 = f.length := by
    simp only [minFrame]
    split_ifs <;> omega
  rw [rxConsume_of_collect (if_neg hi0) hdrop, collect, if_neg, storeByte_collectedTo hneed hi0]
  · exact if_congr hend rfl rfl
  · change ¬ 4105 ≤ i
    omega

/-! ### The whole command (41_transport.md R514, R543, R544) -/

/-- A RECEIVE waits in its RX phase. -/
def receiveStart (s : State) : State := startRx (setBusy (acceptCommand opReceive (answer .done s)))

/-- The frame `f` stands in RXBUF and its length in RX_FLEN. -/
def frameStored (f : List Byte) (s : State) : State := { collectedTo f f.length s with rxFlen := BitVec.ofNat 13 f.length }

theorem rxFlenNat_frameStored (h : f.length ≤ maxFrame) (s : State) : rxFlenNat (frameStored f s) = f.length := by
  simp only [maxFrame] at h
  rw [rxFlenNat, frameStored, BitVec.toNat_ofNat]
  omega

theorem rxImage_frameStored (f : List Byte) (s : State) : rxImage (frameStored f s) f.length = f :=
  (rxImage_congr (s := collectedTo f f.length s) rfl rfl _).trans (rxImage_collectedTo f s)

theorem ValidImage.length_le {ver : Byte} (h : ValidImage f ver) : f.length ≤ maxFrame := by
  rw [h.total]
  exact Nat.add_le_add_left (lenId_le _ _) minFrame

/-- A RECEIVE in an idle connected block begins its RX phase (41_transport.md R514). -/
theorem perform_receive (hb : s.status.busy = false) (hl : s.status.link = .connected) :
    perform (cmdEvent (encode .receive)) s = .next (receiveStart s) := by
  rw [perform_cmdEvent, cmdWrite, decode_encode]
  simp [exec, execReceive, startReceive, receiveStart, hb, hl]

/-- A complete valid frame ends a RECEIVE with OK: no automatic response answers it (41_transport.md R543, R544). -/
theorem frameDone_of_valid (ho : s.status.op = opReceive)
    (hv : validateImage (rxImage s (rxFlenNat s)) s.regs.cfgVer = (codeOk, false)) :
    frameDone s = .next (finish codeOk (recordFrame (codeOk, false) s)) := by
  have hcode : ¬(codeOk = codeVersionMismatch ∨ codeOk = codeChecksumMismatch ∨ codeOk = codeLchksumMismatch) := by decide
  unfold frameDone
  dsimp only
  rw [if_pos ho, hv, receiveDone, if_neg (not_and_of_not_left _ hcode)]

/-- EOI stored after the other bytes of a valid frame ends the RECEIVE. -/
theorem endOfFrame_collectedTo (hv : ValidImage f s.regs.cfgVer) (ho : s.status.op = opReceive) :
    endOfFrame eoi (collectedTo f f.length s) = .next (finish codeOk (recordFrame (codeOk, false) (frameStored f s))) := by
  have hlong := hv.long
  simp only [minFrame] at hlong
  have hneed : (collectedTo f f.length s).rx.need = f.length := if_neg (by omega)
  rw [endOfFrame, if_neg (not_not_intro rfl), hneed]
  refine frameDone_of_valid (s := frameStored f s) ho ?_
  rw [rxFlenNat_frameStored hv.length_le, rxImage_frameStored]
  exact hv.validateImage

/-- The last byte of a valid frame ends the RECEIVE. -/
theorem rxConsume_last {m : Nat} (h : s.Hunting) (hf : s.fifo = f ++ rest) (hv : ValidImage f s.regs.cfgVer)
    (hm : f.length = m + 1) :
    rxConsume (collectedTo f m s) = .next (finish codeOk (recordFrame (codeOk, false) (frameStored f s))) := by
  have hlong := hv.long
  simp only [minFrame] at hlong
  have heoi : at0 f m = eoi := by rw [← hv.eoi, hm]; rfl
  rw [rxConsume_collectedTo hv.total hf (by omega) (by omega), if_pos hm.symm, heoi, ← hm]
  exact endOfFrame_collectedTo hv h.op

/-- The bytes of a valid frame at the head of the FIFO, SOI to EOI, end a hunting RECEIVE. -/
theorem runSteps_validFrame (h : s.Hunting) (hf : s.fifo = f ++ rest) (hv : ValidImage f s.regs.cfgVer) :
    runSteps (List.replicate f.length .rxConsume) f.length s =
      .next (finish codeOk (recordFrame (codeOk, false) (frameStored f { s with inbox := [] }))) := by
  have hlong := hv.long
  simp only [minFrame] at hlong
  obtain ⟨m, hm⟩ : ∃ m, f.length = m + 1 := ⟨f.length - 1, by omega⟩
  have hw (es : List Event) : State.Hunting { s with inbox := es } := { h with }
  have hen (i : Nat) (hi : i < f.length) (es : List Event) :
      rxConsumeEnabled (collectedTo f i { s with inbox := es }) = true :=
    rxConsumeEnabled_of_cons (s := collectedTo f i { s with inbox := es }) h.phase (drop_eq_at0_cons hf hi)
  have hrun := runSteps_rxConsume (m := m) (collectedTo f) s (fun _ _ => ⟨rfl, rfl⟩)
    (fun i hi es => ⟨hen i (by omega) es, ?step⟩) [.rxConsume] 1
  case step =>
    obtain rfl | hi0 := Nat.eq_zero_or_pos i
    · exact rxConsume_collectedTo_zero (s := { s with inbox := es }) hv.soi (drop_eq_at0_cons (i := 0) hf (by omega))
    · rw [rxConsume_collectedTo (s := { s with inbox := es }) hv.total hf hi0.ne' (by omega), if_neg (by omega)]
  have hlast : perform .rxConsume (collectedTo f m { s with inbox := [] }) = _ :=
    (if_pos (hen m (by omega) [])).trans (rxConsume_last (hw []) hf hv hm)
  have hend := runSteps_cons (s := collectedTo f m s) (by simp) hlast (by rw [recordFrame_eq]; rfl) 0
  rw [collectedTo_zero h, hend] at hrun
  rw [hm, List.replicate_succ', hrun, recordFrame_eq]
  rfl

/-! ### The statement -/

/-- Settles O21: the skipped bytes, then the frame, which is valid and ends the command; the bytes stored are the frame's. -/
theorem receiveReconstructsAFrame : Obligations.ReceiveReconstructsAFrame := by
  intro s skipped payload rest adr c1 c2 hb hl hp hskip hf n
  have hv := validImage_encodeFrame s.regs.cfgVer adr c1 c2 hp
  have hn : (encodeFrame s.regs.cfgVer adr c1 c2 payload).length = n := encodeFrame_length ..
  generalize encodeFrame s.regs.cfgVer adr c1 c2 payload = f at *
  have hfirst := runSteps_cons (s := s) (by simp [cmdEvent])
    (perform_receive (s := { s with inbox := List.replicate (skipped.length + n) .rxConsume }) hb hl) rfl (skipped.length + n)
  have hhunt : (receiveStart s).Hunting := ⟨rfl, rfl, rfl, rfl, rfl⟩
  have hskipped := runSteps_skipped hhunt (hf.trans (List.append_assoc ..)) hskip (List.replicate n .rxConsume) n
  have hdrop : s.fifo.drop skipped.length = f ++ rest := by rw [hf, List.append_assoc, List.drop_left]
  have hframe := runSteps_validFrame (hhunt.skippedTo skipped.length) hdrop hv
  rw [← List.replicate_add] at hskipped
  rw [hn] at hframe
  refine ⟨_, hfirst.trans (hskipped.trans hframe), ?_⟩
  let u : State := { skippedTo skipped.length (receiveStart s) with inbox := [] }
  rw [recordFrame_eq]
  refine ⟨rfl, rfl, rfl, ?flen, ?image, fun a ha => ?outside, ?fifo, rfl, rfl, rfl, rfl, rfl, rfl⟩
  case flen => exact (rxFlenNat_frameStored hv.length_le u).trans hn
  case image =>
    rw [← hn]
    exact (rxImage_congr rfl rfl _).trans (rxImage_frameStored f u)
  case outside =>
    refine (byteAt_collectedTo f f.length u a).trans (if_neg ?_)
    simp only [rxBase]
    omega
  case fifo =>
    change (s.fifo.drop skipped.length).drop f.length = rest
    rw [hdrop, List.drop_left]

end Sys2Proof.Machine
end

section
/-! PROOFS. The steps of the line, one event at a time (41_transport.md R500 to R504, R530): `Obligations.EnablingConditions`,
`Obligations.OpenOutcome`, `Obligations.ReconnectTick`, `Obligations.LineFailure`, `Obligations.ReceivedByte`. -/

namespace Sys2Proof.Machine

variable {s t : State} {e : Event}

/-! ### The choice that is taken (R500; log 1) -/

/-- A choice that is no tick is performed. -/
theorem step_of_nextEvent (hn : nextEvent s = e) (he : e ≠ .tick) : step s = perform e (takeEvent s) := by
  rw [step_perform (.inl (by rwa [hn])), hn]

/-- A tick that no internal step holds up is taken. -/
theorem step_of_tick (hn : nextEvent s = .tick) (hi : internalEnabled s = false) : step s = tick (takeEvent s) := by
  rw [step_perform (.inr hi), hn]
  rfl

/-- Taking a choice changes the record of the environment alone. -/
theorem takeEvent_eq (s : State) : ∃ inbox draws, takeEvent s = { s with inbox := inbox, draws := draws } := by
  unfold takeEvent
  split <;> exact ⟨_, _, rfl⟩

theorem txAcceptEnabled_iff : txAcceptEnabled s = true ↔ s.status.phase = .tx ∧ s.regs.loopback = false := by
  simp [txAcceptEnabled]

theorem lbEmitEnabled_iff : lbEmitEnabled s = true ↔ s.status.phase = .tx ∧ s.regs.loopback = true := by
  simp [lbEmitEnabled]

theorem rxConsumeEnabled_iff : rxConsumeEnabled s = true ↔ s.status.phase = .rx ∧ 0 < s.fifo.length := by
  simp [rxConsumeEnabled, List.length_pos_iff]

/-- Settles O8: the choice is no tick, so it is performed, under the condition that `perform` checks. -/
theorem enablingConditions : Obligations.EnablingConditions := by
  intro s
  refine ⟨fun hn => ?_, fun hn => ?_, fun hn => ?_, fun hn => ?_, fun hn => ?_, fun hn => ?_⟩ <;>
    rw [step_of_nextEvent hn (by simp), perform]
  · simp only [txAcceptEnabled_iff, takeEvent_status, takeEvent_regs]
  · simp only [lbEmitEnabled_iff, takeEvent_status, takeEvent_regs]
  · simp only [rxConsumeEnabled_iff, takeEvent_status, takeEvent_fifo]
  · simp only [takeEvent_status]
  · simp only [takeEvent_status]
  · simp only [takeEvent_status]

/-! ### The open outcomes and a line failure (R501, R502, R504) -/

theorem step_openOk (hn : nextEvent s = .openOk) (hl : s.status.link = .connecting) :
    step s = .next (openOk (takeEvent s)) := by
  rw [step_of_nextEvent hn (by simp), perform, if_pos (by simpa using hl)]

theorem step_openFail (hn : nextEvent s = .openFail) (hl : s.status.link = .connecting) :
    step s = .next (openFail (takeEvent s)) := by
  rw [step_of_nextEvent hn (by simp), perform, if_pos (by simpa using hl)]

theorem step_ioError (hn : nextEvent s = .ioError) (hl : s.status.link = .connected) : step s = ioError (takeEvent s) := by
  rw [step_of_nextEvent hn (by simp), perform, if_pos (by simpa using hl)]

/-- LINK_CHG, and then the flags of a completion, are set. -/
theorem or_linkChg_finishFlags (f : BitVec 6) (code : Byte) :
    f ||| flagLinkChg ||| finishFlags code = f ||| (flagLinkChg ||| finishFlags code) := BitVec.or_assoc ..

/-- An open that succeeds ends a waiting CONNECT (R501). -/
theorem openOk_opening (hp : s.status.phase = .opening) : openOk s = { s with
    status := { s.status with link := .connected, armed := true, busy := false, phase := .none, rxst := .idle }
    result := { s.result with code := 0x00#8 }
    intStatus := s.intStatus ||| 0x05#6
    fifo := [] } := by
  rw [openOk, if_pos hp]
  exact congrArg (fun f => ({ finish codeOk (setArmed true (clearFifo (moveLink .connected s))) with intStatus := f } : State))
    (or_linkChg_finishFlags s.intStatus codeOk)

theorem openOk_automatic (hp : s.status.phase ≠ .opening) : openOk s = { s with
    status := { s.status with link := .connected, armed := true }
    intStatus := s.intStatus ||| 0x04#6
    fifo := [] } := by
  rw [openOk, if_neg hp]
  rfl

/-- An open that fails ends a waiting CONNECT and clears ARMED (R502). -/
theorem openFail_opening (hp : s.status.phase = .opening) : openFail s = { s with
    status := { s.status with link := .disconnected, armed := false, busy := false, phase := .none, rxst := .idle }
    result := { s.result with code := 0x08#8 }
    intStatus := s.intStatus ||| 0x07#6
    fifo := []
    timers := { s.timers with reconn := 0#16 } } := by
  rw [openFail, if_pos hp]
  exact congrArg (fun f => ({ finish codeCannotOpen (setArmed false (clearReconn (clearFifo (moveLink .disconnected s)))) with
    intStatus := f } : State)) (or_linkChg_finishFlags s.intStatus codeCannotOpen)

theorem openFail_automatic (hp : s.status.phase ≠ .opening) : openFail s = { s with
    status := { s.status with link := .disconnected }
    intStatus := s.intStatus ||| 0x04#6
    fifo := []
    timers := { s.timers with reconn := 0#16 } } := by
  rw [openFail, if_neg hp]
  rfl

/-- Settles O24: `openOk` and `openFail` with and without a waiting CONNECT, on the state with the choice taken. -/
theorem openOutcome : Obligations.OpenOutcome := by
  intro s hl
  obtain ⟨inbox, draws, hu⟩ := takeEvent_eq s
  refine ⟨fun hn => ?_, fun hn => ?_⟩
  · rw [step_openOk hn hl, hu]
    by_cases hp : s.status.phase = .opening
    · simp only [if_pos hp]
      exact congrArg _ (openOk_opening (s := { s with inbox := inbox, draws := draws }) hp)
    · simp only [if_neg hp]
      exact congrArg _ (openOk_automatic (s := { s with inbox := inbox, draws := draws }) hp)
  · rw [step_openFail hn hl, hu]
    by_cases hp : s.status.phase = .opening
    · simp only [if_pos hp]
      exact congrArg _ (openFail_opening (s := { s with inbox := inbox, draws := draws }) hp)
    · simp only [if_neg hp]
      exact congrArg _ (openFail_automatic (s := { s with inbox := inbox, draws := draws }) hp)

/-- What `io_error` does in each phase a CONNECTED line can have (R504). -/
theorem ioError_idle (hp : s.status.phase = .none) : ioError s = .next (dropLine s) := by simp [ioError, hp]

theorem ioError_rx (hp : s.status.phase = .rx) : ioError s = .next (finish codeReadFailure (dropLine s)) := by
  simp [ioError, hp]

theorem ioError_tx (hp : s.status.phase = .tx) (ho : s.status.op ≠ opReceive) :
    ioError s = .next (finish codeWriteFailure (dropLine s)) := by
  simp [ioError, hp, ho]

theorem ioError_answering (hp : s.status.phase = .tx) (ho : s.status.op = opReceive) : ioError s =
    .next (finish s.autoRtnCode { dropLine s with result := { s.result with autoRtnFail := true } }) := by
  simp [ioError, hp, ho]

/-- Settles O26: the line drops, and the phase chooses how the command ends. -/
theorem lineFailure : Obligations.LineFailure := by
  intro s hn hl down
  have hstep := step_ioError hn hl
  obtain ⟨inbox, draws, hu⟩ := takeEvent_eq s
  have hdown : down = dropLine { s with inbox := inbox, draws := draws } := by
    simp only [down, hu]
    rfl
  rw [hu] at hstep
  rw [hstep, hdown]
  exact ⟨ioError_idle (s := { s with inbox := inbox, draws := draws }),
    ioError_rx (s := { s with inbox := inbox, draws := draws }),
    ioError_tx (s := { s with inbox := inbox, draws := draws }),
    ioError_answering (s := { s with inbox := inbox, draws := draws })⟩

/-! ### Received bytes (R530) -/

/-- Settles O31: `rx_byte` is enabled in every state, and drops the byte, drops it with OVERRUN, or keeps it. -/
theorem receivedByte : Obligations.ReceivedByte := by
  intro s b hn
  have hstep : step s = .next (rxByte b (takeEvent s)) := step_of_nextEvent hn (by simp)
  rw [hstep, rxByte]
  refine ⟨fun hd => ?_, fun hl hlb hfull => ?_, fun hl hlb hroom => ?_⟩
  · rw [if_pos (by simpa using hd)]
  · rw [if_neg (by simp [hl, hlb]), pushFifo, if_pos (by simpa using hfull), setFlags, takeEvent_intStatus]
    rfl
  · rw [if_neg (by simp [hl, hlb]), pushFifo, if_neg (by simpa using hroom), takeEvent_fifo]

/-! ### Reconnection by itself (R503) -/

/-- A saturating count in numbers (10_state.md R153). -/
theorem satInc_eq {w : Nat} (x : BitVec w) : satInc x = BitVec.ofNat w (min (x.toNat + 1) (2 ^ w - 1)) := by
  have hx := x.isLt
  apply BitVec.eq_of_toNat_eq
  rw [BitVec.toNat_ofNat, satInc]
  split_ifs with h
  · rw [h, BitVec.toNat_allOnes, Nat.mod_eq_of_lt (by omega)]
    omega
  · have hne : x.toNat ≠ 2 ^ w - 1 := fun he => h (BitVec.eq_of_toNat_eq (by rw [he, BitVec.toNat_allOnes]))
    rw [BitVec.toNat_add, BitVec.toNat_ofNat, Nat.add_mod_mod, Nat.min_eq_left (by omega)]

theorem satInc_toNat {w : Nat} (x : BitVec w) : (satInc x).toNat = min (x.toNat + 1) (2 ^ w - 1) := by
  have hx := x.isLt
  rw [satInc_eq, BitVec.toNat_ofNat, Nat.mod_eq_of_lt (by omega)]

/-- At RECONN_IVL an open attempt begins by itself. -/
theorem tickReconn_attempt (hl : s.status.link = .disconnected) (ha : s.status.armed = true)
    (hr : max s.regs.reconnIvl.toNat 1 ≤ (satInc s.timers.reconn).toNat) :
    tickReconn s = putOut (.openReq s.regs.lineCfg) (moveLink .connecting (clearReconn s)) := by
  rw [tickReconn, if_pos ⟨hl, ha⟩]
  exact if_pos hr

/-- Before it the tick is counted. -/
theorem tickReconn_count (hl : s.status.link = .disconnected) (ha : s.status.armed = true)
    (hr : (satInc s.timers.reconn).toNat < max s.regs.reconnIvl.toNat 1) :
    tickReconn s = { s with timers := { s.timers with reconn := satInc s.timers.reconn } } := by
  rw [tickReconn, if_pos ⟨hl, ha⟩]
  exact if_neg (not_le.2 hr)

/-- Settles O25: outside an RX phase a tick is R503's part alone, on either side of RECONN_IVL. -/
theorem reconnectTick : Obligations.ReconnectTick := by
  intro s hn hi hp u r
  have hstep : step s = .next (tickReconn u) := by
    rw [step_of_tick hn hi, tick, if_neg (by simpa using hp)]
  have hr : (satInc u.timers.reconn).toNat = r := by
    rw [satInc_toNat, takeEvent_timers]
    rfl
  rw [hstep]
  refine ⟨fun hl ha hle => ?_, fun hl ha hlt => ?_, fun hno => ?_⟩
  · rw [tickReconn_attempt (by simpa [u] using hl) (by simpa [u] using ha) (by rw [hr]; simpa [u] using hle)]
    simp [u, putOut, moveLink, clearReconn, flagLinkChg]
  · rw [tickReconn_count (by simpa [u] using hl) (by simpa [u] using ha) (by rw [hr]; simpa [u] using hlt), satInc_eq]
    simp [u, r]
  · rw [tickReconn, if_neg]
    rintro ⟨hl, ha⟩
    simp only [u, takeEvent_status] at hl ha
    simp [hl, ha] at hno

end Sys2Proof.Machine
end

section
/-! PROOFS. The command words as the host writes them, and what each command does at acceptance (41_transport.md R510 to R514,
R521, R522): `Obligations.CommandAcceptance`, `Obligations.ConnectCommand`, `Obligations.DisconnectCommand`,
`Obligations.TransmitCommandsBegin`, `Obligations.ReceivePhaseBegins`, `Obligations.FrameConnectDisconnect`,
`Obligations.FrameExchange`. -/

namespace Sys2Proof.Machine

variable {s t : State} {i : Instr} {op : BitVec 4} {code : Byte}

/-! ### The CMD write (R510) -/

/-- What a command answers in an idle block. -/
def accepted (i : Instr) (s : State) : State :=
  match i with
  | .nop => s
  | .connect => openLine (acceptCommand opConnect s)
  | .disconnect => finish codeOk (disconnectLine s)
  | .send => startTransmit (txAdr s) (txCid1 s) (txCid2 s) (acceptCommand opSend s)
  | .receive => startReceive (acceptCommand opReceive s)
  | .transact => startTransmit (txAdr s) (txCid1 s) (txCid2 s) (acceptCommand opTransact s)
  | .respond rtn => startTransmit (rxAdr s) (rxCid1 s) rtn (acceptCommand opRespond s)
  | .validate => validateRxbuf (acceptCommand opValidate s)

theorem exec_idle (i : Instr) (hb : s.status.busy = false) : exec i s = .next (accepted i s) := by
  obtain ⟨h, -⟩ | ⟨h, -⟩ | ⟨-, he⟩ := exec_next i s
  · simp [hb] at h
  · simp [hb] at h
  · rw [he]
    cases i <;> rfl

/-- While a command runs every other command word is dropped with CMD_REJ. -/
theorem exec_busy (hb : s.status.busy = true) (hd : i = .disconnect → ¬(s.status.phase = .opening ∨ s.status.phase = .rx)) :
    exec i s = .next (rejectCommand s) := by
  obtain ⟨-, -, he⟩ | ⟨-, hi, hp, -⟩ | ⟨h, -⟩ := exec_next i s
  · exact he
  · exact absurd hp (hd hi)
  · simp [hb] at h

/-- DISCONNECT ends a command in its OPEN or RX phase (R510, R512). -/
theorem exec_disconnect_abort (hb : s.status.busy = true) (hp : s.status.phase = .opening ∨ s.status.phase = .rx) :
    exec .disconnect s = .next (finish codeAborted (disconnectLine s)) := by
  obtain ⟨-, hd, -⟩ | ⟨-, -, -, he⟩ | ⟨h, -⟩ := exec_next .disconnect s
  · exact absurd hp (hd rfl)
  · exact he
  · simp [hb] at h

theorem cmdWrite_encode (i : Instr) (s : State) : cmdWrite (encode i) s = exec i s := by
  rw [cmdWrite, decode_encode]

/-- A word that is not DISCONNECT's, or meets no OPEN or RX phase, is rejected while busy, legal or not. -/
theorem cmdWrite_busy {w : Word} (hb : s.status.busy = true)
    (hw : ¬(w = 0x00000002#32 ∧ (s.status.phase = .opening ∨ s.status.phase = .rx))) :
    cmdWrite w s = .next (rejectCommand s) := by
  obtain ⟨i, hd, he⟩ | ⟨-, -, he⟩ := cmdWrite_cases w s <;> rw [he]
  · refine exec_busy hb fun hi hp => hw ⟨?_, hp⟩
    rw [(decode_eq_instr_iff i).1 hd, hi]
    rfl
  · rw [illegalCommand, if_pos hb]

/-- What an accepted command leaves in STATUS.OP and RESULT: its opcode, nothing in RESULT while it runs, and no RTN_CLASS or
AUTORTN_FAIL at once. -/
structure HoldsAccepted (op : BitVec 4) (t : State) : Prop where
  op : t.status.op = op
  running : t.status.busy = true → t.result = ResultReg.zero
  rtnClass : t.result.rtnClass = 0#4
  autoRtnFail : t.result.autoRtnFail = false

theorem holdsAccepted_of_zero (ho : t.status.op = op) (hr : t.result = ResultReg.zero) : HoldsAccepted op t :=
  ⟨ho, fun _ => hr, by rw [hr]; rfl, by rw [hr]; rfl⟩

/-- A command may finish in the step that accepts it. -/
theorem HoldsAccepted.finish (h : HoldsAccepted op s) : HoldsAccepted op (finish code s) :=
  ⟨h.op, by simp, h.rtnClass, h.autoRtnFail⟩

theorem holdsAccepted_acceptCommand (op : BitVec 4) (s : State) : HoldsAccepted op (acceptCommand op s) :=
  holdsAccepted_of_zero rfl rfl

theorem holdsAccepted_startTransmit (adr c1 c2 : Byte) (op : BitVec 4) (s : State) :
    HoldsAccepted op (startTransmit adr c1 c2 (acceptCommand op s)) := by
  obtain ⟨-, he⟩ | ⟨-, -, he⟩ | ⟨-, -, he⟩ := startTransmit_cases adr c1 c2 (acceptCommand op s) <;> rw [he]
  · exact (holdsAccepted_acceptCommand op s).finish
  · exact (holdsAccepted_acceptCommand op s).finish
  · exact holdsAccepted_of_zero rfl rfl

theorem holdsAccepted_openLine (s : State) : HoldsAccepted opConnect (openLine (acceptCommand opConnect s)) := by
  unfold openLine
  split
  · exact (holdsAccepted_acceptCommand opConnect s).finish
  · exact holdsAccepted_of_zero rfl rfl
  · exact holdsAccepted_of_zero rfl rfl

theorem holdsAccepted_startReceive (s : State) : HoldsAccepted opReceive (startReceive (acceptCommand opReceive s)) := by
  unfold startReceive
  split_ifs
  · exact (holdsAccepted_acceptCommand opReceive s).finish
  · exact holdsAccepted_of_zero rfl rfl

theorem holdsAccepted_validateRxbuf (s : State) : HoldsAccepted opValidate (validateRxbuf (acceptCommand opValidate s)) := by
  unfold validateRxbuf
  split_ifs
  · exact (holdsAccepted_acceptCommand opValidate s).finish
  · exact ⟨rfl, by simp, rfl, rfl⟩

theorem holdsAccepted_disconnectLine (s : State) : HoldsAccepted opDisconnect (disconnectLine s) :=
  holdsAccepted_of_zero (disconnectLine_op s) (disconnectLine_result s)

theorem holdsAccepted_accepted (hi : i ≠ .nop) (s : State) : HoldsAccepted i.opcode (accepted i s) := by
  cases i with
  | nop => exact absurd rfl hi
  | connect => exact holdsAccepted_openLine s
  | disconnect => exact (holdsAccepted_disconnectLine s).finish
  | send => exact holdsAccepted_startTransmit ..
  | receive => exact holdsAccepted_startReceive s
  | transact => exact holdsAccepted_startTransmit ..
  | respond rtn => exact holdsAccepted_startTransmit ..
  | validate => exact holdsAccepted_validateRxbuf s

/-- Settles O9: a word is rejected, an abort, NOP's, illegal, or the word of one of the seven other commands. -/
theorem commandAcceptance : Obligations.CommandAcceptance := by
  intro s w
  refine ⟨rfl, fun _ hd => ?abort, fun hb hw => cmdWrite_busy hb hw, fun hb hw => ?nop, fun hb _ hw => ?illegal,
    fun hb hne hw => ?legal⟩
  case abort =>
    rw [hd.1]
    exact cmdWrite_encode .disconnect s
  case nop =>
    rw [hw]
    exact (cmdWrite_encode .nop s).trans (exec_nop_idle hb)
  case illegal => exact (illegalCommandWords.2 s w hw).1 hb
  case legal =>
    obtain ⟨i, rfl⟩ := wordLegal_iff_exists_encode.1 hw
    have hi : i ≠ .nop := by
      rintro rfl
      exact hne rfl
    obtain ⟨hop, harg, -, -⟩ := encode_fields i
    have hop' : (encode i).extractLsb' 0 4 = i.opcode := hop
    have harg' : (encode i).extractLsb' 8 8 = i.arg := harg
    obtain ⟨h1, h2, h3, h4⟩ := holdsAccepted_accepted hi s
    rw [hop', harg']
    refine ⟨i, accepted i s, ?_, cmdWrite_encode i s, exec_idle i hb, h1, h2, h3, h4⟩
    cases i with
    | nop => exact absurd rfl hi
    | respond rtn => simp [Instr.opcode, Instr.arg]
    | _ => decide

/-! ### CONNECT and DISCONNECT (R511, R512) -/

theorem openLine_connected (hl : s.status.link = .connected) : openLine s = finish codeOk s := by simp [openLine, hl]

theorem openLine_connecting (hl : s.status.link = .connecting) : openLine s = startOpen s := by simp [openLine, hl]

theorem openLine_disconnected (hl : s.status.link = .disconnected) :
    openLine s = startOpen (putOut (.openReq s.regs.lineCfg) (clearReconn (moveLink .connecting s))) := by
  simp [openLine, hl]

/-- The state a DISCONNECT leaves, as R512 lists it. -/
theorem finish_disconnectLine (code : Byte) (s : State) : finish code (disconnectLine s) = { s with
    result := { code := code, rtnClass := 0#4, lenErrKind := false, autoRtnFail := false }
    status := { busy := false, link := .disconnected, armed := false, phase := .none, rxst := .idle, op := 0x2#4 }
    intStatus := s.intStatus ||| (if s.status.link = .disconnected then 0x00#6 else 0x04#6) ||| finishFlags code
    fifo := []
    timers := { s.timers with reconn := 0#16 }
    phyOut := if s.status.link = .disconnected then s.phyOut else s.phyOut ++ [.closeReq] } := by
  unfold disconnectLine
  obtain ⟨hl, he⟩ | ⟨hl, he⟩ := closeLine_cases (acceptCommand opDisconnect s) <;> rw [he]
  · have hl' : s.status.link = .disconnected := hl
    rw [if_pos hl', if_pos hl', BitVec.or_zero, ← hl']
    rfl
  · have hl' : s.status.link ≠ .disconnected := hl
    rw [if_neg hl', if_neg hl']
    rfl

/-- DISCONNECT in every state that does not reject it. -/
theorem exec_disconnect (h : s.status.busy = false ∨ s.status.phase = .opening ∨ s.status.phase = .rx) :
    exec .disconnect s = .next (finish (if s.status.busy then codeAborted else codeOk) (disconnectLine s)) := by
  cases hb : s.status.busy with
  | false => exact exec_idle .disconnect hb
  | true => exact exec_disconnect_abort hb (h.resolve_left (by simp [hb]))

/-- Settles O12: the three arms of `openLine`, then each way out of the OPEN phase. -/
theorem connectCommand : Obligations.ConnectCommand := by
  refine ⟨rfl, fun s hb => ?_, fun s hb hp hl => ⟨?openOk, ?openFail, ?disconnect, ?tick⟩⟩
  · rw [exec_idle .connect hb]
    exact ⟨fun hl => congrArg _ (openLine_connected (s := acceptCommand opConnect s) hl),
      fun hl => congrArg _ (openLine_connecting (s := acceptCommand opConnect s) hl),
      fun hl => congrArg _ (openLine_disconnected (s := acceptCommand opConnect s) hl)⟩
  case openOk =>
    rw [perform, if_pos hl, openOk_opening hp]
    exact ⟨_, rfl, rfl, rfl, rfl, rfl, rfl⟩
  case openFail =>
    rw [perform, if_pos hl, openFail_opening hp]
    exact ⟨_, rfl, rfl, rfl, rfl, rfl, rfl⟩
  case disconnect =>
    rw [exec_disconnect (.inr (.inl hp)), if_pos hb, finish_disconnectLine, if_neg (by simp [hl])]
    exact ⟨_, rfl, rfl, rfl, rfl, rfl, BitVec.or_assoc ..⟩
  case tick =>
    rw [perform, tick, if_neg (by simp [hp]), tickReconn_of_linked (by simp [hl])]

/-- Settles O13: the exact state of `finish_disconnectLine`; from there a second DISCONNECT finds nothing left to change. -/
theorem disconnectCommand : Obligations.DisconnectCommand := by
  refine ⟨rfl, fun s h => ?first, fun s hb hp => exec_busy hb (by simp [hp]), fun s t hb ht => ?second⟩
  case first =>
    rw [exec_disconnect h, finish_disconnectLine]
    cases s.status.busy <;> rfl
  case second =>
    rw [exec_disconnect (.inl hb), hb, finish_disconnectLine] at ht
    cases ht
    rw [exec_disconnect (.inl rfl), finish_disconnectLine]
    simp [BitVec.or_assoc]

/-! ### The start of a TX or RX phase (R513, R514, R521, R522) -/

/-- A transmitting command by the checks of R522. -/
theorem beginsTransmit_of_exec {adr c1 c2 : Byte} (he : exec i s = .next (startTransmit adr c1 c2 (acceptCommand op s))) :
    beginsTransmit i op adr c1 c2 s := by
  rw [beginsTransmit, he]
  obtain ⟨hl, h⟩ | ⟨hl, hn, h⟩ | ⟨hl, hn, h⟩ := startTransmit_cases adr c1 c2 (acceptCommand op s) <;> rw [h]
  · exact ⟨fun _ => rfl, fun hl' => absurd hl' hl, fun hl' => absurd hl' hl⟩
  · exact ⟨fun hl' => absurd hl hl', fun _ _ => rfl, fun _ hn' => absurd hn' (not_le.2 hn)⟩
  · exact ⟨fun hl' => absurd hl hl', fun _ hn' => absurd hn' (not_lt.2 hn), fun _ _ => rfl⟩

/-- While a TX phase runs no command word is carried out. -/
theorem cmdWrite_tx_phase {w : Word} (hb : s.status.busy = true) (hp : s.status.phase = .tx) :
    cmdWrite w s = .next (rejectCommand s) :=
  cmdWrite_busy hb (by simp [hp])

theorem regWrite_tx (off : Nat) (v : Word) (s : State) : (regWrite off v s).tx = s.tx := by
  obtain ⟨_, _, _, _, he, -⟩ := regWrite_eq off v s
  rw [he]

theorem bufWrite_tx (locked : Bool) (a n : Nat) (v : Word) (s : State) : (bufWrite locked a n v s).tx = s.tx := by
  unfold bufWrite
  split_ifs <;> simp

/-- The frame is fixed when its TX phase begins (R522). -/
theorem hostWrite_tx {a : BitVec 16} {n : Nat} {v : Word} (hb : s.status.busy = true) (hp : s.status.phase = .tx)
    (h : hostWrite a n v s = .next t) : t.tx = s.tx := by
  obtain ⟨-, he⟩ | ⟨-, -, -, he⟩ | ⟨-, -, -, he⟩ | ⟨-, -, he⟩ | ⟨-, -, he⟩ := hostWrite_cases a n v s <;> rw [he] at h
  · cases h
    rfl
  · rw [cmdWrite_tx_phase (s := answer .done s) hb hp] at h
    cases h
    rfl
  · cases h
    exact regWrite_tx ..
  · cases h
    exact bufWrite_tx ..
  · cases h
    exact bufWrite_tx ..

/-- Settles O14: `tx_begin` by definition, the three commands by the two checks of `startTransmit`. -/
theorem transmitCommandsBegin : Obligations.TransmitCommandsBegin :=
  ⟨fun _ _ _ _ _ => rfl,
    fun _ hb => ⟨beginsTransmit_of_exec (exec_idle .send hb), beginsTransmit_of_exec (exec_idle .transact hb),
      fun rtn => beginsTransmit_of_exec (exec_idle (.respond rtn) hb)⟩,
    fun _ _ _ _ _ hb hp h => hostWrite_tx hb hp h⟩

theorem startReceive_of_not_connected (hl : s.status.link ≠ .connected) : startReceive s = finish codeNotConnected s :=
  if_pos hl

theorem startReceive_of_connected (hl : s.status.link = .connected) : startReceive s = startRx (setBusy s) :=
  if_neg (not_not_intro hl)

/-- The last byte of a TRANSACT's request begins its RX phase (R521, R523). -/
theorem txDone_transact (ho : s.status.op = opTransact) : txDone s = .next (startRx s) := by
  simp [txDone, ho, opTransact, opSend, opRespond]

/-- Settles O15: RECEIVE on either side of its check, and `tx_done` of a TRANSACT. -/
theorem receivePhaseBegins : Obligations.ReceivePhaseBegins := by
  refine ⟨fun s hb => ?_, fun s ho => txDone_transact ho⟩
  rw [exec_idle .receive hb]
  exact ⟨fun hl => congrArg _ (startReceive_of_not_connected (s := acceptCommand opReceive s) hl),
    fun hl => congrArg _ (startReceive_of_connected (s := acceptCommand opReceive s) hl)⟩

/-! ### What CONNECT and DISCONNECT leave unchanged (R511, R512) -/

/-- Flags outside a mask do not show under it. -/
theorem or_and_of_and_eq_zero {w : Nat} {f m : BitVec w} (h : f &&& m = 0#w) (x : BitVec w) : (x ||| f) &&& m = x &&& m := by
  rw [BitVec.and_or_distrib_right, h, BitVec.or_zero]

/-- What CONNECT and DISCONNECT can change: RESULT, STATUS, the flags but OVERRUN and BUF_VIOL, the FIFO, reconn_timer and the
requests to the PHY. -/
def LinkCommandKeeps (s t : State) : Prop :=
  ∃ result status fl fifo reconn phyOut, fl &&& 0x28#6 = s.intStatus &&& 0x28#6 ∧ t = { s with
    result := result
    status := status
    intStatus := fl
    fifo := fifo
    timers := { s.timers with reconn := reconn }
    phyOut := phyOut }

theorem linkCommandKeeps_rejectCommand (s : State) : LinkCommandKeeps s (rejectCommand s) :=
  ⟨_, _, _, _, _, _, or_and_of_and_eq_zero (by decide) _, rfl⟩

theorem linkCommandKeeps_openLine (s : State) : LinkCommandKeeps s (openLine (acceptCommand opConnect s)) := by
  unfold openLine
  split
  · exact ⟨_, _, _, _, _, _, or_and_of_and_eq_zero (by decide) _, rfl⟩
  · exact ⟨_, _, _, _, _, _, rfl, rfl⟩
  · exact ⟨_, _, _, _, _, _, or_and_of_and_eq_zero (by decide) _, rfl⟩

theorem linkCommandKeeps_disconnectLine (hc : code = codeOk ∨ code = codeAborted) (s : State) :
    LinkCommandKeeps s (finish code (disconnectLine s)) := by
  rw [finish_disconnectLine, BitVec.or_assoc]
  refine ⟨_, _, _, _, _, _, or_and_of_and_eq_zero ?_ _, rfl⟩
  obtain rfl | rfl := hc <;> split_ifs <;> decide

theorem linkCommandKeeps_of_exec (h : exec .connect s = .next t ∨ exec .disconnect s = .next t) : LinkCommandKeeps s t := by
  obtain h | h := h
  · obtain ⟨-, -, he⟩ | ⟨-, hi, -⟩ | ⟨-, he⟩ := exec_next .connect s
    · cases he.symm.trans h
      exact linkCommandKeeps_rejectCommand s
    · cases hi
    · cases he.symm.trans h
      exact linkCommandKeeps_openLine s
  · obtain ⟨-, -, he⟩ | ⟨-, -, -, he⟩ | ⟨-, he⟩ := exec_next .disconnect s <;> cases he.symm.trans h
    · exact linkCommandKeeps_rejectCommand s
    · exact linkCommandKeeps_disconnectLine (.inr rfl) s
    · exact linkCommandKeeps_disconnectLine (.inl rfl) s

/-- Asking for the line leaves the FIFO and ARMED alone. -/
theorem openLine_fifo_armed (s : State) :
    (openLine s).fifo = s.fifo ∧ (openLine s).status.armed = s.status.armed := by
  unfold openLine
  split <;> simp

/-- Settles O17: everything outside `LinkCommandKeeps` is untouched, and CONNECT does not touch the FIFO or ARMED. -/
theorem frameConnectDisconnect : Obligations.FrameConnectDisconnect := by
  refine fun s t => ⟨fun h => ?_, fun h => ?_⟩
  · obtain ⟨result, status, fl, fifo, reconn, phyOut, hfl, rfl⟩ := linkCommandKeeps_of_exec h
    exact ⟨rfl, rfl, hfl, rfl, rfl, rfl, rfl, rfl, rfl, rfl, rfl, rfl, rfl, fun a => rfl⟩
  · obtain ⟨-, -, he⟩ | ⟨-, hi, -⟩ | ⟨-, he⟩ := exec_next .connect s
    · cases he.symm.trans h
      exact ⟨rfl, rfl⟩
    · cases hi
    · cases he.symm.trans h
      exact openLine_fifo_armed (acceptCommand opConnect s)

/-! ### What SEND, TRANSACT, RESPOND and RECEIVE leave unchanged at acceptance (R513, R514) -/

theorem codecCommandKeeps_finish (op : BitVec 4) (code : Byte) (s : State) :
    CodecCommandKeeps s (finish code (acceptCommand op s)) := by
  refine ⟨_, _, _, _, _, finishFlags code, ?_, rfl⟩
  rw [finishFlags_eq]
  split_ifs <;> decide

/-- A command that only starts something sets no flag. -/
theorem codecCommandKeeps_quiet (result : ResultReg) (busy : Bool) (phase : Phase) (rxst : RxState) (op : BitVec 4)
    (s : State) : CodecCommandKeeps s { s with
      result := result, status := { s.status with busy := busy, phase := phase, rxst := rxst, op := op } } :=
  ⟨_, _, _, _, _, 0#6, by decide, by rw [BitVec.or_zero]⟩

/-- A transmitting command changes the transmit side as well. -/
def TransmitKeeps (s t : State) : Prop := ∃ tx, CodecCommandKeeps { s with tx := tx } t

/-- RECEIVE changes the receive side as well: rx_idx, RX_FLEN, two timers and CNT_ATTEMPT. -/
def ListenKeeps (s t : State) : Prop :=
  ∃ idx flen byte frame attempt, CodecCommandKeeps { s with
    rx := { s.rx with idx := idx }
    rxFlen := flen
    timers := { s.timers with byte := byte, frame := frame }
    counters := { s.counters with attempt := attempt } } t

theorem transmitKeeps_startTransmit (adr c1 c2 : Byte) (op : BitVec 4) (s : State) :
    TransmitKeeps s (startTransmit adr c1 c2 (acceptCommand op s)) := by
  obtain ⟨-, he⟩ | ⟨-, -, he⟩ | ⟨-, -, he⟩ := startTransmit_cases adr c1 c2 (acceptCommand op s) <;> rw [he]
  · exact ⟨s.tx, codecCommandKeeps_finish op _ s⟩
  · exact ⟨s.tx, codecCommandKeeps_finish op _ s⟩
  · exact ⟨(txBegin adr c1 c2 (txLenNat s) s).tx, codecCommandKeeps_quiet ResultReg.zero true .tx s.status.rxst op _⟩

theorem listenKeeps_startReceive (s : State) : ListenKeeps s (startReceive (acceptCommand opReceive s)) := by
  obtain hl | hl := Decidable.em (s.status.link = .connected)
  · rw [startReceive_of_connected (s := acceptCommand opReceive s) hl]
    exact ⟨0, 0#13, 0#16, 0#24, 0#8, codecCommandKeeps_quiet ResultReg.zero true .rx .hunt opReceive _⟩
  · rw [startReceive_of_not_connected (s := acceptCommand opReceive s) hl]
    exact ⟨_, _, _, _, _, codecCommandKeeps_finish opReceive _ s⟩

theorem transmitKeeps_of_exec {rtn : Byte}
    (h : exec .send s = .next t ∨ exec .transact s = .next t ∨ exec (.respond rtn) s = .next t) : TransmitKeeps s t := by
  obtain hb | hb := Bool.eq_false_or_eq_true s.status.busy
  · rw [exec_busy hb (by simp), exec_busy hb (by simp), exec_busy hb (by simp), or_self, or_self] at h
    cases h
    exact ⟨s.tx, codecCommandKeeps_rejectCommand s⟩
  · rw [exec_idle _ hb, exec_idle _ hb, exec_idle _ hb] at h
    obtain h | h | h := h <;> cases h <;> exact transmitKeeps_startTransmit _ _ _ _ s

theorem listenKeeps_of_exec (h : exec .receive s = .next t) : ListenKeeps s t := by
  obtain hb | hb := Bool.eq_false_or_eq_true s.status.busy
  · rw [exec_busy hb (by simp)] at h
    cases h
    exact ⟨_, _, _, _, _, codecCommandKeeps_rejectCommand s⟩
  · rw [exec_idle _ hb] at h
    cases h
    exact listenKeeps_startReceive s

/-- Settles O18: everything outside `TransmitKeeps`, or outside `ListenKeeps`, is untouched. -/
theorem frameExchange : Obligations.FrameExchange := by
  intro s t rtn
  refine ⟨fun h => ?_, fun h => ?_, fun h => ?_⟩
  · have hk : ∃ tx, ListenKeeps { s with tx := tx } t := by
      rw [← or_assoc, ← or_assoc, or_assoc (a := exec .send s = .next t)] at h
      obtain h | h := h
      · obtain ⟨tx, hc⟩ := transmitKeeps_of_exec h
        exact ⟨tx, _, _, _, _, _, hc⟩
      · exact ⟨s.tx, listenKeeps_of_exec h⟩
    obtain ⟨tx, idx, flen, byte, frame, attempt, result, busy, phase, rxst, op, fl, hfl, rfl⟩ := hk
    exact ⟨rfl, rfl, rfl, rfl, or_and_of_and_eq_zero hfl _, rfl, rfl, rfl, rfl, rfl, rfl, rfl, rfl, rfl, rfl, rfl,
      fun a => rfl⟩
  · obtain ⟨tx, result, busy, phase, rxst, op, fl, -, rfl⟩ := transmitKeeps_of_exec h
    exact ⟨rfl, rfl, rfl, rfl⟩
  · obtain ⟨idx, flen, byte, frame, attempt, result, busy, phase, rxst, op, fl, -, rfl⟩ := listenKeeps_of_exec h
    rfl

end Sys2Proof.Machine
end

section
/-! PROOFS. One byte consumed in an RX phase, what a complete frame does, and the tick of an RX phase (41_transport.md R540 to
R547, 42_engine.md R620): `Obligations.HuntForStart`, `Obligations.CollectTheFrame`, `Obligations.FrameDone`,
`Obligations.ReceiveDoneOrAnswer`, `Obligations.ReceiveTick`. -/

namespace Sys2Proof.Machine

variable {s t : State} {b : Byte} {rest : List Byte}

/-! ### One consumed byte (R540 to R542) -/

/-- With a byte in the FIFO of an RX phase, `rx_consume` is taken when it is chosen. -/
theorem step_rxConsume (hn : nextEvent s = .rxConsume) (hp : s.status.phase = .rx) (hf : s.fifo = b :: rest) :
    step s = rxConsume (takeEvent s) := by
  have he : rxConsumeEnabled (takeEvent s) = true := rxConsumeEnabled_of_cons (by simpa using hp) (by simpa using hf)
  rw [step_of_nextEvent hn (by simp), perform, if_pos he]

/-- SOI starts a frame at RXBUF[0]. -/
theorem hunt_of_soi (hb : b = soi) : hunt b s =
    putByte rxBase soi { s with rx := { s.rx with idx := 1 }, status := { s.status with rxst := .collect } } := by
  rw [hunt, if_pos hb, hb]

theorem hunt_of_ne_soi (hb : b ≠ soi) : hunt b s = countSkip s := if_neg hb

/-- Settles O32: SOI is stored at RXBUF[0], every other byte is counted as skipped. -/
theorem huntForStart : Obligations.HuntForStart := by
  intro s b rest hn hp hr hf u
  obtain ⟨inbox, draws, hu⟩ := takeEvent_eq s
  have hstep : step s = .next (hunt b (popFifo rest (takeEvent s))) := by
    rw [step_rxConsume hn hp hf, rxConsume_of_hunt (by simpa using hr) (by simpa using hf)]
  rw [hstep]
  simp only [u, hu]
  refine ⟨fun hb => ?_, fun hb => ?_⟩
  · rw [hunt_of_soi hb]
    exact ⟨_, rfl, rfl, byteAt_putByte_same _ rxBase _, fun a ha => byteAt_putByte_other _ _ ha⟩
  · rw [hunt_of_ne_soi hb]
    rfl

/-- A stored byte changes RXBUF at rx_idx alone. -/
theorem byteAt_storeByte_other (b : Byte) (s : State) {a : Nat} (ha : a ≠ rxBase + s.rx.idx) :
    byteAt (storeByte b s) a = byteAt s a := by
  have hput : byteAt (storeByte b s) a = byteAt (putByte (rxBase + s.rx.idx) b s) a := byteAt_congr (by simp) (by simp) a
  rw [hput, byteAt_putByte_other s b ha]

/-- A stored byte changes buffer memory and the receive sequencing alone. -/
theorem storeByte_frame (b : Byte) (s : State) :
    storeByte b s = { s with mem := (storeByte b s).mem, rx := (storeByte b s).rx } := by
  obtain ⟨need, he, -, -⟩ := storeByte_eq b s
  rw [he]
  rfl

/-- The seventh byte settles rx_need from LENID, no other byte touches it. -/
theorem storeByte_need (b : Byte) (s : State) : (storeByte b s).rx.need =
    if s.rx.idx + 1 = 7 then minFrame + (lenId (rxbuf (storeByte b s) 5) (rxbuf (storeByte b s) 6)).toNat
    else s.rx.need := by
  obtain ⟨need, he, h7, hn7⟩ := storeByte_eq b s
  have hneed : (storeByte b s).rx.need = need := by rw [he]
  rw [hneed]
  split_ifs with h
  · exact h7 h
  · exact hn7 h

/-- A collected byte is stored, and at the EOI position it ends the frame. -/
theorem collect_eq (hi : s.rx.idx < rxSize) : collect b s =
    if minFrame ≤ s.rx.idx + 1 ∧ s.rx.idx + 1 = (storeByte b s).rx.need then endOfFrame b (storeByte b s)
    else .next (storeByte b s) := by
  rw [collect, if_neg (not_le.2 hi)]
  simp only [storeByte_rx_idx]

theorem endOfFrame_of_ne_eoi (hb : b ≠ eoi) : endOfFrame b s = .next (resumeHunt (countDiscard s)) := if_pos hb

theorem endOfFrame_of_eoi (hb : b = eoi) : endOfFrame b s = frameDone { s with rxFlen := BitVec.ofNat 13 s.rx.need } :=
  if_neg (not_not_intro hb)

/-- Settles O33: the state `u` is that of `storeByte`, and `endOfFrame` looks at the byte at the EOI position. -/
theorem collectTheFrame : Obligations.CollectTheFrame := by
  intro s b rest hn hp hr hf hi idx
  have hidx : (popFifo rest (takeEvent s)).rx.idx = s.rx.idx := by simp
  have hstep : step s = collect b (popFifo rest (takeEvent s)) := by
    rw [step_rxConsume hn hp hf, rxConsume_of_collect (by simpa using hr) (by simpa using hf)]
  rw [hstep, collect_eq (by rw [hidx]; exact hi), hidx]
  refine ⟨storeByte b (popFifo rest (takeEvent s)), ⟨?frame, ?stored, fun a ha => ?other, ?idx, ?need⟩, fun h => if_neg h,
    fun hend hb => ?discard, fun hend hb => ?complete⟩
  case frame =>
    refine (storeByte_frame b _).trans ?_
    simp [popFifo]
  case stored => rw [rxbuf_storeByte, if_pos hidx.symm]
  case other =>
    rw [byteAt_storeByte_other b _ (by rw [hidx]; exact ha)]
    exact byteAt_congr (by simp) (by simp) a
  case idx => rw [storeByte_rx_idx, hidx]
  case need =>
    rw [storeByte_need, hidx]
    simp only [popFifo_rx, takeEvent_rx]
    rfl
  case discard =>
    refine (if_pos hend).trans ((endOfFrame_of_ne_eoi hb).trans ?_)
    simp [resumeHunt, countDiscard]
  case complete => exact (if_pos hend).trans (endOfFrame_of_eoi hb)

/-! ### A complete frame (R543, R544) -/

theorem frameDone_receive (ho : s.status.op = opReceive) : frameDone s =
    .next (receiveDone (validateImage (rxImage s (rxFlenNat s)) s.regs.cfgVer).1
      (recordFrame (validateImage (rxImage s (rxFlenNat s)) s.regs.cfgVer) s)) :=
  if_pos ho

theorem frameDone_transact (ho : s.status.op = opTransact) : frameDone s =
    .next (transactDone (validateImage (rxImage s (rxFlenNat s)) s.regs.cfgVer).1
      (recordFrame (validateImage (rxImage s (rxFlenNat s)) s.regs.cfgVer) s)) := by
  have hne : s.status.op ≠ opReceive := by rw [ho]; decide
  exact (if_neg hne).trans (if_pos ho)

/-- What the frame in RXBUF and its validation are read from. -/
structure SameFrame (s t : State) : Prop where
  mem : t.mem = s.mem
  epoch : t.epoch = s.epoch
  flen : t.rxFlen = s.rxFlen
  regs : t.regs = s.regs

theorem SameFrame.trans {u : State} (h1 : SameFrame s t) (h2 : SameFrame t u) : SameFrame s u :=
  ⟨h2.mem.trans h1.mem, h2.epoch.trans h1.epoch, h2.flen.trans h1.flen, h2.regs.trans h1.regs⟩

theorem sameFrame_recordFrame (v : Byte × Bool) (s : State) : SameFrame s (recordFrame v s) := by
  rw [recordFrame_eq]
  exact ⟨rfl, rfl, rfl, rfl⟩

theorem sameFrame_receiveDone (code : Byte) (s : State) : SameFrame s (receiveDone code s) := by
  unfold receiveDone autoRtn
  split_ifs <;> exact ⟨rfl, rfl, rfl, rfl⟩

theorem sameFrame_transactDone (code : Byte) (s : State) : SameFrame s (transactDone code s) := by
  unfold transactDone
  dsimp only
  split_ifs <;> exact ⟨rfl, rfl, rfl, rfl⟩

theorem sameFrame_frameDone (h : frameDone s = .next t) : SameFrame s t := by
  obtain ⟨-, rfl⟩ | ⟨-, rfl⟩ := frameDone_next h
  · exact (sameFrame_recordFrame _ s).trans (sameFrame_receiveDone _ _)
  · exact (sameFrame_recordFrame _ s).trans (sameFrame_transactDone _ _)

/-- An RX phase is left by the byte that completes a frame: EOI, stored at the EOI position. -/
theorem rxConsume_leaves (hp : s.status.phase = .rx) (h : rxConsume s = .next t) (ht : t.status.phase ≠ .rx) :
    ∃ rest, s.fifo = eoi :: rest ∧ s.status.rxst = .collect ∧
      minFrame ≤ (storeByte eoi (popFifo rest s)).rx.idx ∧
      (storeByte eoi (popFifo rest s)).rx.idx = (storeByte eoi (popFifo rest s)).rx.need ∧
      frameDone { storeByte eoi (popFifo rest s) with
        rxFlen := BitVec.ofNat 13 (storeByte eoi (popFifo rest s)).rx.need } = .next t := by
  obtain ⟨-, rfl⟩ | ⟨b, rest, hf, ⟨-, rfl⟩ | ⟨hr, hc⟩⟩ := rxConsume_next h
  · exact absurd hp ht
  · refine absurd ?_ ht
    unfold hunt
    split_ifs <;> exact hp
  · obtain ⟨-, ⟨⟨hlo, hend⟩, he⟩ | ⟨-, rfl⟩⟩ := collect_next hc
    · obtain ⟨-, rfl⟩ | ⟨rfl, hd⟩ := endOfFrame_next he
      · exact absurd (by simpa using hp) ht
      · exact ⟨rest, hf, hr, hlo, hend, hd⟩
    · exact absurd (by simpa using hp) ht

/-- The frame that a step completes stands in RXBUF with its markers and the length its LENID says. -/
theorem completedFrame_of_inv (h : s.Inv) (hp : s.status.phase = .rx) (hc : rxConsume s = .next t)
    (ht : t.status.phase ≠ .rx) :
    rxbuf t 0 = soi ∧ rxbuf t (rxFlenNat t - 1) = eoi ∧ minFrame ≤ rxFlenNat t ∧
    rxFlenNat t = minFrame + (lenId (rxbuf t 5) (rxbuf t 6)).toNat := by
  obtain ⟨rest, hf, hr, hlo, hend, hd⟩ := rxConsume_leaves hp hc ht
  obtain ⟨hb, hst⟩ := (h.popFifo hf).storeByte hr eoi
  have heoi : rxbuf (storeByte eoi (popFifo rest s)) ((storeByte eoi (popFifo rest s)).rx.idx - 1) = eoi := by
    rw [storeByte_rx_idx, Nat.add_sub_cancel, rxbuf_storeByte, if_pos rfl]
  generalize storeByte eoi (popFifo rest s) = u at *
  have hsame := sameFrame_frameDone hd
  have hbuf (i : Nat) : rxbuf t i = rxbuf u i := byteAt_congr hsame.mem hsame.epoch _
  obtain ⟨-, -, hhi⟩ := hb.rxRange
  have hlen : rxFlenNat t = u.rx.need := by
    simp only [maxFrame] at hhi
    rw [rxFlenNat, hsame.flen, BitVec.toNat_ofNat]
    omega
  simp only [minFrame] at hlo
  rw [hlen, hbuf, hbuf, hbuf, hbuf, ← hend]
  exact ⟨hst.soiFirst, heoi, hlo, hend.trans (hst.settled (by omega))⟩

/-- Settles O34: `frame_done` by its two commands; a completed frame has its markers and its length, so that validation can
fail only on the version, the nibble or the checksum. -/
theorem frameDone_validates : Obligations.FrameDone := by
  refine ⟨?_, fun s t h hp hc ht => ?_⟩
  · intro s v u
    have hu : recordFrame v s = u := recordFrame_eq v s
    rw [← hu]
    exact ⟨frameDone_receive, frameDone_transact⟩
  · obtain ⟨hsoi, heoi, hlo, hlen⟩ := completedFrame_of_inv h hp hc ht
    have hv := validateImage_complete (img := rxImage t (rxFlenNat t)) t.regs.cfgVer (by rwa [rxImage_length])
      (by rw [at0_rxImage t (by simp only [minFrame] at hlo; omega), hsoi])
      (by rw [rxImage_length, at0_rxImage t (by simp only [minFrame] at hlo; omega), heoi])
      (by simp only [minFrame] at hlo
          rw [rxImage_length, at0_rxImage t (by omega), at0_rxImage t (by omega), ← hlen])
    refine ⟨hsoi, heoi, hlen, ?_⟩
    change validateImage (rxImage t (rxFlenNat t)) t.regs.cfgVer ∈ _
    generalize validateImage (rxImage t (rxFlenNat t)) t.regs.cfgVer = v at hv
    obtain ⟨code, kind⟩ := v
    obtain ⟨rfl, rfl | rfl | rfl | rfl⟩ := hv <;> decide

/-- Settles O35: `receive_done` by its condition, and the end of the response it begins by `tx_done`. -/
theorem receiveDoneOrAnswer : Obligations.ReceiveDoneOrAnswer := by
  intro s code
  refine ⟨fun hc ha => ?_, fun hn => ?_, fun ho => ?_⟩
  · rw [receiveDone, if_pos ⟨hc, ha⟩]
    rfl
  · rw [receiveDone, if_neg]
    rintro ⟨hc, ha⟩
    rw [ha] at hn
    exact hn.elim (absurd hc) (by simp)
  · have ho' : s.status.op = opReceive := ho
    simp [txDone, ho', opReceive, opTransact, opSend, opRespond]

/-! ### The tick of an RX phase (R545 to R547) -/

/-- The code of a timeout (R547). -/
def timeoutCode (op : BitVec 4) : Byte := if op = opReceive then codeReceiveTimeout else codeNoResponse

theorem timeoutFinish_eq (ho : s.status.op = opReceive ∨ s.status.op = opTransact) :
    timeoutFinish s = .next (finish (timeoutCode s.status.op) s) := by
  unfold timeoutFinish timeoutCode
  obtain ho | ho := ho <;> rw [ho]
  · rfl
  · rfl

/-- The tick has reached a frame deadline that is not 0 (R546). -/
def DeadlinePassed (s : State) : Prop :=
  s.regs.tmoFrame ≠ 0#24 ∧ s.regs.tmoFrame.toNat ≤ (satInc s.timers.frame).toNat

/-- The tick has reached the read timeout (R545). -/
def ReadExpired (s : State) : Prop := max s.regs.tmoByte.toNat 1 ≤ (satInc s.timers.byte).toNat

/-- A partial frame is given up: counted, when there is one. -/
def partialDiscarded (s : State) : Counters :=
  { s.counters with discard := if s.status.rxst = .collect then s.counters.discard + 1#16 else s.counters.discard }

/-- The state in which the next attempt begins (R545). -/
def nextAttempt (s : State) : State :=
  { s with
    timers := { s.timers with byte := 0#16 }
    counters := { partialDiscarded s with attempt := s.counters.attempt + 1#8 }
    status := { s.status with rxst := if s.status.rxst = .collect then .hunt else s.status.rxst }
    rx := { s.rx with idx := if s.status.rxst = .collect then 0 else s.rx.idx } }

theorem frameDeadline_eq (s : State) : frameDeadline s = timeoutFinish { s with counters := partialDiscarded s } := by
  unfold frameDeadline partialDiscarded
  split_ifs <;> rfl

/-- The frame deadline ends the command, whatever the read timeout says. -/
theorem tickRx_of_deadline (ho : s.status.op = opReceive ∨ s.status.op = opTransact) (hd : DeadlinePassed s) :
    tickRx s = .next (finish (timeoutCode s.status.op) { s with
      timers := { s.timers with frame := satInc s.timers.frame }, counters := partialDiscarded s }) :=
  (if_pos hd).trans ((frameDeadline_eq _).trans (timeoutFinish_eq ho))

/-- Before both timeouts the tick is counted in both timers. -/
theorem tickRx_of_waiting (hd : ¬DeadlinePassed s) (hr : ¬ReadExpired s) :
    tickRx s = .next { s with
      timers := { s.timers with frame := satInc s.timers.frame, byte := satInc s.timers.byte } } :=
  (if_neg hd).trans (if_neg hr)

/-- A read timeout takes one attempt, and the last one ends the command. -/
theorem readTimeout_eq (s : State) : readTimeout s =
    if max s.regs.retryLimit.toNat 1 ≤ (s.counters.attempt + 1#8).toNat then timeoutFinish (nextAttempt s)
    else .next (nextAttempt s) := by
  unfold readTimeout
  dsimp only
  by_cases hc : s.status.rxst = .collect
  · have hs : nextAttempt s = countAttempt (resumeHunt (countDiscard { s with timers := { s.timers with byte := 0#16 } })) := by
      rw [nextAttempt, partialDiscarded, if_pos hc, if_pos hc, if_pos hc]
      rfl
    rw [if_pos hc, hs]
    rfl
  · have hs : nextAttempt s = countAttempt { s with timers := { s.timers with byte := 0#16 } } := by
      rw [nextAttempt, partialDiscarded, if_neg hc, if_neg hc, if_neg hc]
      rfl
    rw [if_neg hc, hs]
    rfl

theorem tickRx_of_expired (hd : ¬DeadlinePassed s) (hr : ReadExpired s) :
    tickRx s = readTimeout { s with timers := { s.timers with frame := satInc s.timers.frame, byte := satInc s.timers.byte } } :=
  (if_neg hd).trans (if_pos hr)

/-- A read timeout that leaves attempts. -/
theorem tickRx_of_next_attempt (hd : ¬DeadlinePassed s) (hr : ReadExpired s)
    (ha : (s.counters.attempt + 1#8).toNat < max s.regs.retryLimit.toNat 1) :
    tickRx s = .next (nextAttempt { s with timers := { s.timers with frame := satInc s.timers.frame } }) := by
  rw [tickRx_of_expired hd hr, readTimeout_eq]
  exact if_neg (not_le.2 ha)

/-- The last attempt. -/
theorem tickRx_of_last_attempt (ho : s.status.op = opReceive ∨ s.status.op = opTransact) (hd : ¬DeadlinePassed s)
    (hr : ReadExpired s) (ha : max s.regs.retryLimit.toNat 1 ≤ (s.counters.attempt + 1#8).toNat) :
    tickRx s = .next (finish (timeoutCode s.status.op)
      (nextAttempt { s with timers := { s.timers with frame := satInc s.timers.frame } })) := by
  rw [tickRx_of_expired hd hr, readTimeout_eq]
  exact (if_pos ha).trans (timeoutFinish_eq ho)

/-- A tick of an RX phase on a CONNECTED line is that phase's part alone. -/
theorem tick_of_rx (hp : s.status.phase = .rx) (hl : s.status.link = .connected) : tick s = tickRx s := by
  rw [tick, if_pos hp, tickReconn_of_linked (by simp [hl])]

/-- Settles O37: the four cases of `tickRx`, with the saturating counts in numbers. -/
theorem receiveTick : Obligations.ReceiveTick := by
  intro s hn hi hp hl ho u f b code discard rxIdx deadline attempt next
  obtain ⟨inbox, draws, hu⟩ := takeEvent_eq s
  have hstep : step s = tickRx { s with inbox := inbox, draws := draws } := by
    rw [step_of_tick hn hi, tick_of_rx (by simpa using hp) (by simpa using hl), hu]
  have hf : satInc s.timers.frame = BitVec.ofNat 24 f := satInc_eq _
  have hb : satInc s.timers.byte = BitVec.ofNat 16 b := satInc_eq _
  have hbn : (satInc s.timers.byte).toNat = b := satInc_toNat _
  have hd : deadline ↔ DeadlinePassed { s with inbox := inbox, draws := draws } := by
    rw [DeadlinePassed, satInc_toNat]
    rfl
  have hr : max s.regs.tmoByte.toNat 1 ≤ b ↔ ReadExpired { s with inbox := inbox, draws := draws } := by
    rw [ReadExpired, hbn]
  have hnext : next = nextAttempt { s with
      inbox := inbox, draws := draws, timers := { s.timers with frame := satInc s.timers.frame } } := by
    simp only [next, u, hu, ← hf]
    rfl
  rw [hstep, hnext, hd, ← not_le, hr]
  refine ⟨fun h => ?_, fun h h' => ?_, fun h h' ha => ?_, fun h h' ha => ?_⟩
  · rw [tickRx_of_deadline (s := { s with inbox := inbox, draws := draws }) ho h]
    simp only [u, hu, ← hf]
    rfl
  · rw [tickRx_of_waiting h h']
    simp only [u, hu, ← hf, ← hb]
  · exact tickRx_of_next_attempt (s := { s with inbox := inbox, draws := draws }) h h' ha
  · exact tickRx_of_last_attempt (s := { s with inbox := inbox, draws := draws }) ho h h' ha

end Sys2Proof.Machine
end

section
/-! PROOFS. The steps of a TX phase, and a whole SEND (41_transport.md R513, R523, R531, R532): `Obligations.TransmitSteps`,
`Obligations.SendTransmitsOneFrame`.

A stretch of equal steps is one lemma about runs (`runSteps_replicate`). What `i` sent bytes leave is `sentTo i` on the line and
`loopedTo i` in loopback; either way the last byte runs `tx_done`. -/

namespace Sys2Proof.Machine

variable {s t : State} {e : Event} {b : Byte} {i : Nat}

/-! ### One sent byte (R523, R531, R532) -/

theorem txAccept_of_presented (hi : s.tx.idx < s.tx.img.length) :
    txAccept s = advanceTx (putOut (.emit (s.tx.img.getD s.tx.idx 0#8)) s) := by
  simp [txAccept, hi]

theorem lbEmit_of_presented (hi : s.tx.idx < s.tx.img.length) :
    lbEmit s = advanceTx (pushFifo (s.tx.img.getD s.tx.idx 0#8) s) := by
  simp [lbEmit, hi]

theorem txDone_sent (ho : s.status.op = opSend ∨ s.status.op = opRespond) : txDone s = .next (finish codeOk s) := if_pos ho

theorem txDone_answered (ho : s.status.op = opReceive) : txDone s = .next (finish s.autoRtnCode s) := by
  simp [txDone, ho, opReceive, opTransact, opSend, opRespond]

/-- What becomes of a TX phase in the step `a` that has sent a byte of `s` and left `u`: it goes on, or the last byte ends it by
the command in STATUS.OP. -/
def AdvancesTo (a : Answer) (s u : State) : Prop :=
  (s.tx.idx + 1 ≠ s.tx.img.length → a = .next u) ∧
  (s.tx.idx + 1 = s.tx.img.length →
    (s.status.op = opSend ∨ s.status.op = opRespond → a = .next (finish codeOk u)) ∧
    (s.status.op = opTransact → a = .next (startRx u)) ∧
    (s.status.op = opReceive → a = .next (finish s.autoRtnCode u)))

theorem advancesTo_advanceTx (s : State) : AdvancesTo (advanceTx s) s (countSent s) := by
  refine ⟨fun hne => if_neg hne, fun hlast => ?_⟩
  have hd : advanceTx s = txDone (countSent s) := if_pos hlast
  rw [hd]
  exact ⟨txDone_sent (s := countSent s), txDone_transact (s := countSent s), txDone_answered (s := countSent s)⟩

theorem step_txAccept (hn : nextEvent s = .txAccept) (hp : s.status.phase = .tx) (hb : s.regs.loopback = false) :
    step s = txAccept (takeEvent s) := by
  rw [step_of_nextEvent hn (by simp), perform, if_pos (txAcceptEnabled_iff.2 (by simp [hp, hb]))]

theorem step_lbEmit (hn : nextEvent s = .lbEmit) (hp : s.status.phase = .tx) (hb : s.regs.loopback = true) :
    step s = lbEmit (takeEvent s) := by
  rw [step_of_nextEvent hn (by simp), perform, if_pos (lbEmitEnabled_iff.2 (by simp [hp, hb]))]

/-- Settles O30: each step is `advanceTx` of the state with the byte emitted, pushed or dropped; a tick finds no RX phase and a
CONNECTED link. -/
theorem transmitSteps : Obligations.TransmitSteps := by
  intro s hp hi b sent u
  obtain ⟨inbox, draws, hu⟩ := takeEvent_eq s
  have hpresents : (takeEvent s).tx.idx < (takeEvent s).tx.img.length := by simpa using hi
  refine ⟨fun hn hlb => ?line, fun hn hlb => ?loop, fun hn hlb hl => ?tick⟩
  case line =>
    have hstep := (step_txAccept hn hp hlb).trans (txAccept_of_presented hpresents)
    simp only [sent, u, hstep, hu]
    exact advancesTo_advanceTx (putOut (.emit b) { s with inbox := inbox, draws := draws })
  case loop =>
    have hstep := (step_lbEmit hn hp hlb).trans (lbEmit_of_presented hpresents)
    rw [hu] at hstep
    simp only [sent, u, hstep, hu]
    by_cases hfull : s.fifo.length = s.params.rxfifoDepth
    · have hpush : pushFifo b { s with inbox := inbox, draws := draws } =
          setFlags flagOverrun { s with inbox := inbox, draws := draws } := if_pos hfull
      rw [if_pos hfull, hpush]
      exact advancesTo_advanceTx (setFlags flagOverrun { s with inbox := inbox, draws := draws })
    · have hpush : pushFifo b { s with inbox := inbox, draws := draws } =
          { s with inbox := inbox, draws := draws, fifo := s.fifo ++ [b] } := if_neg hfull
      rw [if_neg hfull, hpush]
      exact advancesTo_advanceTx { s with inbox := inbox, draws := draws, fifo := s.fifo ++ [b] }
  case tick =>
    have hidle : internalEnabled s = false := by simp [internalEnabled, rxConsumeEnabled, lbEmitEnabled, hp, hlb]
    rw [step_of_tick hn hidle, tick, if_neg (by simp [hp]), tickReconn_of_linked (by simp [hl])]

/-! ### Runs of equal steps (10_state.md R105) -/

/-- A stretch of `m` equal choices leads from `g 0` to `g m`, when each leads from `g i` to `g (i + 1)` whatever choices wait. -/
theorem runSteps_replicate {m : Nat} {g : Nat → State}
    (hstep : ∀ i < m, ∀ es, step { g i with inbox := e :: es } = .next { g (i + 1) with inbox := es })
    (es : List Event) (k : Nat) : runSteps (List.replicate m e ++ es) (m + k) (g 0) = runSteps es k (g m) := by
  induction m generalizing g with
  | zero =>
    rw [Nat.zero_add]
    rfl
  | succ m ih =>
    have hfirst := hstep 0 (Nat.succ_pos m) (List.replicate m e ++ es)
    rw [Nat.add_right_comm]
    exact (run_succ Sys2Proof.core hfirst (m + k)).trans
      (ih (g := fun i => g (i + 1)) fun i hi => hstep (i + 1) (Nat.succ_lt_succ hi))

/-- A run of one step answers what the step answers. -/
theorem run_one (M : Host.Core) (s : M.State) : M.run 1 s = M.step s := by
  rw [Host.Core.run]
  cases M.step s <;> rfl

theorem runSteps_one (e : Event) (s : State) : runSteps [e] 1 s = step { s with inbox := [e] } :=
  run_one Sys2Proof.core { s with inbox := [e] }

/-- A stretch of `m` equal choices and a last one, that may end something. -/
theorem runSteps_replicate_last {m : Nat} {g : Nat → State} {a : Answer}
    (hstep : ∀ i < m, ∀ es, step { g i with inbox := e :: es } = .next { g (i + 1) with inbox := es })
    (hlast : step { g m with inbox := [e] } = a) : runSteps (List.replicate (m + 1) e) (m + 1) (g 0) = a := by
  rw [List.replicate_succ', runSteps_replicate hstep, runSteps_one, hlast]

/-! ### A frame on the line (R532) -/

/-- The state after `i` bytes of the frame have gone out on the line. -/
def sentTo (i : Nat) (s : State) : State :=
  { s with tx := { s.tx with idx := i }, phyOut := s.phyOut ++ (s.tx.img.take i).map .emit }

theorem sentTo_zero (h0 : s.tx.idx = 0) : sentTo 0 s = s := by
  have htx : { s.tx with idx := 0 } = s.tx := by rw [← h0]
  simp [sentTo, htx]

theorem take_succ_getD {l : List Byte} (hi : i < l.length) : l.take (i + 1) = l.take i ++ [l.getD i 0#8] := by
  rw [List.take_succ_eq_append_getElem hi, List.getD_eq_getElem _ _ hi]

theorem countSent_emit_sentTo (hi : i < s.tx.img.length) :
    countSent (putOut (.emit (s.tx.img.getD i 0#8)) (sentTo i s)) = sentTo (i + 1) s := by
  simp only [countSent, putOut, sentTo, take_succ_getD hi, List.map_append, List.map_cons, List.map_nil, List.append_assoc]

/-- The next byte of the frame goes out, and the last one runs `tx_done`. -/
theorem txAccept_sentTo (hi : i < s.tx.img.length) : txAccept (sentTo i s) =
    if i + 1 = s.tx.img.length then txDone (sentTo (i + 1) s) else .next (sentTo (i + 1) s) := by
  rw [txAccept_of_presented (s := sentTo i s) hi, advanceTx]
  change (if i + 1 = s.tx.img.length then txDone (countSent (putOut (.emit (s.tx.img.getD i 0#8)) (sentTo i s)))
    else .next (countSent (putOut (.emit (s.tx.img.getD i 0#8)) (sentTo i s)))) = _
  rw [countSent_emit_sentTo hi]

theorem step_sentTo (hp : s.status.phase = .tx) (hb : s.regs.loopback = false) (hi : i < s.tx.img.length) (es : List Event) :
    step { sentTo i s with inbox := .txAccept :: es } =
      if i + 1 = s.tx.img.length then txDone { sentTo (i + 1) s with inbox := es }
      else .next { sentTo (i + 1) s with inbox := es } :=
  (step_txAccept (s := { sentTo i s with inbox := .txAccept :: es }) rfl hp hb).trans
    (txAccept_sentTo (s := { s with inbox := es }) hi)

/-- Fewer accepted bytes than the frame has leave the TX phase running. -/
theorem runSteps_sentTo {m : Nat} (hp : s.status.phase = .tx) (hb : s.regs.loopback = false) (h0 : s.tx.idx = 0)
    (hm : m < s.tx.img.length) (es : List Event) (k : Nat) :
    runSteps (List.replicate m .txAccept ++ es) (m + k) s = runSteps es k (sentTo m s) := by
  have hrun := runSteps_replicate (e := .txAccept) (m := m) (g := fun i => sentTo i s)
    (fun i hi es => (step_sentTo hp hb (by omega) es).trans (if_neg (by omega))) es k
  rwa [sentTo_zero h0] at hrun

/-- As many accepted bytes as the frame has put the frame on the line and run `tx_done`. -/
theorem runSteps_sent (hp : s.status.phase = .tx) (hb : s.regs.loopback = false) (h0 : s.tx.idx = 0)
    (hlen : 0 < s.tx.img.length) : runSteps (List.replicate s.tx.img.length .txAccept) s.tx.img.length s =
      txDone { sentTo s.tx.img.length s with inbox := [] } := by
  obtain ⟨m, hm⟩ : ∃ m, s.tx.img.length = m + 1 := ⟨s.tx.img.length - 1, by omega⟩
  have hrun := runSteps_replicate_last (e := .txAccept) (m := m) (g := fun i => sentTo i s)
    (fun i hi es => (step_sentTo hp hb (by omega) es).trans (if_neg (by omega)))
    ((step_sentTo hp hb (by omega) []).trans (if_pos hm.symm))
  rw [sentTo_zero h0] at hrun
  rw [hm]
  exact hrun

/-! ### A frame in loopback (R531) -/

/-- The state after `i` bytes of the frame have been looped back: what fits is in the FIFO, and OVERRUN tells of the rest. -/
def loopedTo (i : Nat) (s : State) : State :=
  { s with
    tx := { s.tx with idx := i }
    fifo := (s.fifo ++ s.tx.img.take i).take s.params.rxfifoDepth
    intStatus := s.intStatus ||| if s.params.rxfifoDepth < s.fifo.length + i then flagOverrun else 0#6 }

theorem loopedTo_zero (h0 : s.tx.idx = 0) (hf : s.fifo.length ≤ s.params.rxfifoDepth) : loopedTo 0 s = s := by
  have htx : { s.tx with idx := 0 } = s.tx := by rw [← h0]
  rw [loopedTo, htx, List.take_zero, List.append_nil, List.take_of_length_le hf, if_neg (by omega), BitVec.or_zero]

/-- The next byte of the frame goes into the FIFO, or is dropped when the FIFO is full. -/
theorem countSent_pushFifo_loopedTo (hi : i < s.tx.img.length) :
    countSent (pushFifo (s.tx.img.getD i 0#8) (loopedTo i s)) = loopedTo (i + 1) s := by
  have hlen : (s.fifo ++ s.tx.img.take i).length = s.fifo.length + i := by
    rw [List.length_append, List.length_take_of_le (by omega)]
  have happend : s.fifo ++ s.tx.img.take (i + 1) = (s.fifo ++ s.tx.img.take i) ++ [s.tx.img.getD i 0#8] := by
    rw [take_succ_getD hi, List.append_assoc]
  by_cases hfull : s.params.rxfifoDepth ≤ s.fifo.length + i
  · have hpush : pushFifo (s.tx.img.getD i 0#8) (loopedTo i s) = setFlags flagOverrun (loopedTo i s) :=
      if_pos (by simp only [loopedTo, List.length_take, hlen]; omega)
    have hfifo : (s.fifo ++ s.tx.img.take (i + 1)).take s.params.rxfifoDepth =
        (s.fifo ++ s.tx.img.take i).take s.params.rxfifoDepth := by
      rw [happend, List.take_append_of_le_length (by omega)]
    have hflags : (s.intStatus ||| if s.params.rxfifoDepth < s.fifo.length + i then flagOverrun else 0#6) ||| flagOverrun =
        s.intStatus ||| if s.params.rxfifoDepth < s.fifo.length + (i + 1) then flagOverrun else 0#6 := by
      rw [if_pos (show s.params.rxfifoDepth < s.fifo.length + (i + 1) by omega), BitVec.or_assoc]
      congr 1
      split_ifs <;> decide
    rw [hpush]
    simp only [countSent, setFlags, loopedTo, hfifo, hflags]
  · have hpush : pushFifo (s.tx.img.getD i 0#8) (loopedTo i s) =
        { loopedTo i s with fifo := (loopedTo i s).fifo ++ [s.tx.img.getD i 0#8] } :=
      if_neg (by simp only [loopedTo, List.length_take, hlen]; omega)
    have hfifo : (s.fifo ++ s.tx.img.take (i + 1)).take s.params.rxfifoDepth =
        (s.fifo ++ s.tx.img.take i).take s.params.rxfifoDepth ++ [s.tx.img.getD i 0#8] := by
      have hfits := List.take_of_length_le (i := s.params.rxfifoDepth) (l := s.fifo ++ s.tx.img.take i) (by omega)
      rw [happend, hfits, List.take_of_length_le (by rw [List.length_append, hlen, List.length_singleton]; omega)]
    have hflags : (if s.params.rxfifoDepth < s.fifo.length + i then flagOverrun else 0#6) =
        if s.params.rxfifoDepth < s.fifo.length + (i + 1) then flagOverrun else 0#6 := by
      rw [if_neg (by omega), if_neg (by omega)]
    rw [hpush]
    simp only [countSent, loopedTo, hfifo, hflags]

theorem lbEmit_loopedTo (hi : i < s.tx.img.length) : lbEmit (loopedTo i s) =
    if i + 1 = s.tx.img.length then txDone (loopedTo (i + 1) s) else .next (loopedTo (i + 1) s) := by
  have htx : (pushFifo (s.tx.img.getD i 0#8) (loopedTo i s)).tx = { s.tx with idx := i } := pushFifo_tx _ _
  rw [lbEmit_of_presented (s := loopedTo i s) hi, advanceTx]
  change (if (pushFifo (s.tx.img.getD i 0#8) (loopedTo i s)).tx.idx + 1 =
      (pushFifo (s.tx.img.getD i 0#8) (loopedTo i s)).tx.img.length
    then txDone (countSent (pushFifo (s.tx.img.getD i 0#8) (loopedTo i s)))
    else .next (countSent (pushFifo (s.tx.img.getD i 0#8) (loopedTo i s)))) = _
  rw [countSent_pushFifo_loopedTo hi, htx]

theorem step_loopedTo (hp : s.status.phase = .tx) (hb : s.regs.loopback = true) (hi : i < s.tx.img.length) (es : List Event) :
    step { loopedTo i s with inbox := .lbEmit :: es } =
      if i + 1 = s.tx.img.length then txDone { loopedTo (i + 1) s with inbox := es }
      else .next { loopedTo (i + 1) s with inbox := es } :=
  (step_lbEmit (s := { loopedTo i s with inbox := .lbEmit :: es }) rfl hp hb).trans
    (lbEmit_loopedTo (s := { s with inbox := es }) hi)

/-- As many looped-back bytes as the frame has run `tx_done`. -/
theorem runSteps_looped (hp : s.status.phase = .tx) (hb : s.regs.loopback = true) (h0 : s.tx.idx = 0)
    (hf : s.fifo.length ≤ s.params.rxfifoDepth) (hlen : 0 < s.tx.img.length) :
    runSteps (List.replicate s.tx.img.length .lbEmit) s.tx.img.length s =
      txDone { loopedTo s.tx.img.length s with inbox := [] } := by
  obtain ⟨m, hm⟩ : ∃ m, s.tx.img.length = m + 1 := ⟨s.tx.img.length - 1, by omega⟩
  have hrun := runSteps_replicate_last (e := .lbEmit) (m := m) (g := fun i => loopedTo i s)
    (fun i hi es => (step_loopedTo hp hb (by omega) es).trans (if_neg (by omega)))
    ((step_loopedTo hp hb (by omega) []).trans (if_pos hm.symm))
  rw [loopedTo_zero h0 hf] at hrun
  rw [hm]
  exact hrun

/-! ### The whole command (R513) -/

/-- The state in which a transmitting command begins its TX phase, by a CMD write. -/
def transmitStart (op : BitVec 4) (adr c1 c2 : Byte) (s : State) : State :=
  txBegin adr c1 c2 (txLenNat s) (acceptCommand op (answer .done s))

/-- A CMD write with SEND's word begins the TX phase of the frame that TX_HDR and TXBUF give. -/
theorem perform_send (hb : s.status.busy = false) (hl : s.status.link = .connected) (hn : txLenNat s ≤ maxLen) :
    perform (cmdEvent (encode .send)) s = .next (transmitStart opSend (txAdr s) (txCid1 s) (txCid2 s) s) := by
  rw [perform_cmdEvent, cmdWrite_encode, exec_idle (s := answer .done s) .send hb]
  obtain ⟨hl', -⟩ | ⟨-, hn', -⟩ | ⟨-, -, he⟩ := startTransmit_cases (txAdr s) (txCid1 s) (txCid2 s)
    (acceptCommand opSend (answer .done s))
  · exact absurd hl hl'
  · exact absurd hn (not_le.2 hn')
  · exact congrArg _ he

theorem runSteps_send (hb : s.status.busy = false) (hl : s.status.link = .connected) (hn : txLenNat s ≤ maxLen)
    (es : List Event) (k : Nat) : runSteps (cmdEvent (encode .send) :: es) (k + 1) s =
      runSteps es k (transmitStart opSend (txAdr s) (txCid1 s) (txCid2 s) s) :=
  runSteps_cons (by simp [cmdEvent]) (perform_send (s := { s with inbox := es }) hb hl hn) rfl k

/-- A failure of the line after `m` bytes ends the SEND; the bytes stay on the line (R504). -/
theorem runSteps_ioError_sentTo {m : Nat} (hp : s.status.phase = .tx) (ho : s.status.op ≠ opReceive)
    (hl : s.status.link = .connected) :
    runSteps [.ioError] 1 (sentTo m s) = .next (finish codeWriteFailure (dropLine { sentTo m s with inbox := [] })) :=
  (runSteps_one ..).trans ((step_ioError (s := { sentTo m s with inbox := [.ioError] }) rfl hl).trans
    (ioError_tx (s := { sentTo m s with inbox := [] }) hp ho))

/-- Settles O19: the start of the TX phase, then the frame on the line up to its end or up to a failure, or in loopback. -/
theorem sendTransmitsOneFrame : Obligations.SendTransmitsOneFrame := by
  refine ⟨rfl, ?_⟩
  intro s hb n frame ok
  obtain ⟨hnotConnected, htooLong, -⟩ := beginsTransmit_of_exec (exec_idle .send hb)
  let v := transmitStart opSend (txAdr s) (txCid1 s) (txCid2 s) s
  have himg : v.tx.img = frame := rfl
  have hlen : frame.length = 10 + n := by
    simp only [frame, encodeFrame_length, txPayload_length]
    rfl
  have hsucc : 11 + n = 10 + n + 1 := by omega
  refine ⟨hnotConnected, fun hl h4 => htooLong hl (by omega), fun hl hn hlb => ⟨?sent, fun m hm => ?failed⟩,
    fun hl hn hlb hf => ?looped⟩
  case sent =>
    have hrun := runSteps_sent (s := v) rfl hlb rfl (by rw [himg]; omega)
    rw [himg, hlen] at hrun
    rw [hsucc, runSteps_send hb hl hn, hrun, txDone_sent (.inl rfl)]
    have htake : frame.take (10 + n) = frame := List.take_of_length_le hlen.le
    simp only [sentTo, himg, htake]
    rfl
  case failed =>
    rw [show m + 2 = m + 1 + 1 from rfl, runSteps_send hb hl hn,
      runSteps_sentTo (s := v) rfl hlb rfl (by rw [himg]; omega),
      runSteps_ioError_sentTo (s := v) rfl (show opSend ≠ opReceive by decide) hl]
    have hflags : s.intStatus ||| flagLinkChg ||| finishFlags codeWriteFailure = s.intStatus ||| 0x07#6 :=
      or_linkChg_finishFlags ..
    rw [← hflags]
    rfl
  case looped =>
    have hrun := runSteps_looped (s := v) rfl hlb rfl hf (by rw [himg]; omega)
    rw [himg, hlen] at hrun
    rw [hsucc, runSteps_send hb hl hn, hrun, txDone_sent (.inl rfl)]
    have htake : frame.take (10 + n) = frame := List.take_of_length_le hlen.le
    have hflags : (s.intStatus ||| if s.params.rxfifoDepth < s.fifo.length + (10 + n) then flagOverrun else 0#6) |||
        finishFlags codeOk =
        s.intStatus ||| if s.params.rxfifoDepth < s.fifo.length + (10 + n) then 0x09#6 else 0x01#6 := by
      rw [BitVec.or_assoc]
      congr 1
      split_ifs <;> decide
    rw [← hflags]
    simp only [loopedTo, himg, htake]
    rfl

end Sys2Proof.Machine
end

section
/-! PROOFS. A RECEIVE on a silent line ends at its exact tick (41_transport.md R545 to R548, R850):
`Obligations.SilentReceiveTimesOut`.

After `m` ticks without a byte frame_timer counts `m`, byte_timer counts `m` modulo the read timeout, and CNT_ATTEMPT counts the
read timeouts in `m` (`silentTo`); `lastTick` is the tick at which one of the two limits is reached. -/

namespace Sys2Proof.Machine

variable {s t : State} {m : Nat}

/-! ### The limits (R545, R546) -/

/-- The ticks of one attempt. -/
def attemptTicks (r : HostRegs) : Nat := max r.tmoByte.toNat 1

/-- The tick that ends a silent RX phase. -/
def lastTick (r : HostRegs) : Nat :=
  if r.tmoFrame = 0#24 then attemptTicks r * max r.retryLimit.toNat 1
  else min r.tmoFrame.toNat (attemptTicks r * max r.retryLimit.toNat 1)

theorem attemptTicks_range (r : HostRegs) : 0 < attemptTicks r ∧ attemptTicks r < 65536 := by
  have := r.tmoByte.isLt
  simp only [attemptTicks]
  omega

theorem lastTick_le (r : HostRegs) : lastTick r ≤ attemptTicks r * max r.retryLimit.toNat 1 := by
  unfold lastTick
  split_ifs
  · exact le_rfl
  · exact min_le_right _ _

theorem lastTick_le_tmoFrame {r : HostRegs} (h : r.tmoFrame ≠ 0#24) : lastTick r ≤ r.tmoFrame.toNat := by
  rw [lastTick, if_neg h]
  exact min_le_left _ _

theorem lastTick_pos (r : HostRegs) : 0 < lastTick r := by
  have hattempts : 0 < attemptTicks r * max r.retryLimit.toNat 1 := Nat.mul_pos (attemptTicks_range r).1 (by omega)
  unfold lastTick
  split_ifs with h0
  · exact hattempts
  · have hframe : r.tmoFrame.toNat ≠ 0 := fun he => h0 (BitVec.eq_of_toNat_eq he)
    omega

/-- No timer saturates before that tick: 65535 x 255 is below 2^24. -/
theorem lastTick_lt (r : HostRegs) : lastTick r < 2 ^ 24 - 1 := by
  have hretry : max r.retryLimit.toNat 1 ≤ 255 := by
    have := r.retryLimit.isLt
    omega
  have hticks : attemptTicks r ≤ 65535 := by
    have := attemptTicks_range r
    omega
  calc lastTick r ≤ attemptTicks r * max r.retryLimit.toNat 1 := lastTick_le r
    _ ≤ 65535 * 255 := Nat.mul_le_mul hticks hretry
    _ < 2 ^ 24 - 1 := by decide

/-- The attempts that read timeouts have used up before that tick leave one more. -/
theorem attempts_lt (r : HostRegs) (hm : m < lastTick r) : m / attemptTicks r < max r.retryLimit.toNat 1 :=
  Nat.div_lt_of_lt_mul (hm.trans_le (lastTick_le r))

/-- The next tick is within the same attempt. -/
theorem succ_divMod_of_lt {B : Nat} (h : m % B + 1 < B) : (m + 1) / B = m / B ∧ (m + 1) % B = m % B + 1 := by
  rw [Nat.div_mod_unique (by omega)]
  have := Nat.mod_add_div m B
  omega

/-- The next tick ends the attempt. -/
theorem succ_divMod_of_eq {B : Nat} (h : m % B + 1 = B) : (m + 1) / B = m / B + 1 ∧ (m + 1) % B = 0 := by
  rw [Nat.div_mod_unique (by omega), Nat.mul_succ]
  have := Nat.mod_add_div m B
  omega

theorem satInc_ofNat {w n : Nat} (h : n + 1 < 2 ^ w) : satInc (BitVec.ofNat w n) = BitVec.ofNat w (n + 1) := by
  rw [satInc_eq, BitVec.toNat_ofNat, Nat.mod_eq_of_lt (by omega), Nat.min_eq_left (by omega)]

/-! ### A silent stretch -/

/-- The state after `m` ticks of an RX phase in which no byte came. -/
def silentTo (m : Nat) (s : State) : State :=
  { s with
    timers := { s.timers with frame := BitVec.ofNat 24 m, byte := BitVec.ofNat 16 (m % attemptTicks s.regs) }
    counters := { s.counters with attempt := BitVec.ofNat 8 (m / attemptTicks s.regs) } }

theorem satInc_frame_silentTo (hm : m < lastTick s.regs) : satInc (silentTo m s).timers.frame = BitVec.ofNat 24 (m + 1) := by
  have := lastTick_lt s.regs
  exact satInc_ofNat (by omega)

theorem satInc_byte_silentTo (m : Nat) (s : State) :
    satInc (silentTo m s).timers.byte = BitVec.ofNat 16 (m % attemptTicks s.regs + 1) := by
  obtain ⟨hpos, hlt⟩ := attemptTicks_range s.regs
  have := Nat.mod_lt m hpos
  exact satInc_ofNat (by omega)

theorem deadlinePassed_silentTo_iff (hm : m < lastTick s.regs) :
    DeadlinePassed (silentTo m s) ↔ s.regs.tmoFrame ≠ 0#24 ∧ s.regs.tmoFrame.toNat ≤ m + 1 := by
  have := lastTick_lt s.regs
  rw [DeadlinePassed, satInc_frame_silentTo hm, BitVec.toNat_ofNat, Nat.mod_eq_of_lt (by omega)]
  rfl

theorem readExpired_silentTo_iff : ReadExpired (silentTo m s) ↔ m % attemptTicks s.regs + 1 = attemptTicks s.regs := by
  obtain ⟨hpos, hlt⟩ := attemptTicks_range s.regs
  have := Nat.mod_lt m hpos
  rw [ReadExpired, satInc_byte_silentTo, BitVec.toNat_ofNat, Nat.mod_eq_of_lt (by omega)]
  change attemptTicks s.regs ≤ _ ↔ _
  omega

theorem attempt_silentTo (hm : m < lastTick s.regs) :
    ((silentTo m s).counters.attempt + 1#8).toNat = m / attemptTicks s.regs + 1 := by
  have hlt := attempts_lt s.regs hm
  have hretry := s.regs.retryLimit.isLt
  have hadd : (silentTo m s).counters.attempt + 1#8 = BitVec.ofNat 8 (m / attemptTicks s.regs + 1) := by
    rw [BitVec.ofNat_add]
    rfl
  rw [hadd, BitVec.toNat_ofNat, Nat.mod_eq_of_lt (by omega)]

/-- A read timeout in a hunt only restarts byte_timer and counts the attempt. -/
theorem nextAttempt_of_hunt (hr : s.status.rxst = .hunt) : nextAttempt s = { s with
    timers := { s.timers with byte := 0#16 }, counters := { s.counters with attempt := s.counters.attempt + 1#8 } } := by
  have hstatus : { s.status with rxst := .hunt } = s.status := by rw [← hr]
  simp [nextAttempt, partialDiscarded, hr, hstatus]

/-- Before its last tick a silent RX phase goes on. -/
theorem tickRx_silentTo (hr : s.status.rxst = .hunt) (hm : m + 1 < lastTick s.regs) :
    tickRx (silentTo m s) = .next (silentTo (m + 1) s) := by
  have hm' : m < lastTick s.regs := by omega
  have hd : ¬DeadlinePassed (silentTo m s) := by
    rw [deadlinePassed_silentTo_iff hm']
    rintro ⟨hne, hle⟩
    have := lastTick_le_tmoFrame hne
    omega
  have hframe := satInc_frame_silentTo hm'
  by_cases he : ReadExpired (silentTo m s)
  · obtain ⟨hdiv, hmod⟩ := succ_divMod_of_eq (readExpired_silentTo_iff.1 he)
    have hattempt : (silentTo m s).counters.attempt + 1#8 = BitVec.ofNat 8 ((m + 1) / attemptTicks s.regs) := by
      rw [hdiv, BitVec.ofNat_add]
      rfl
    rw [tickRx_of_next_attempt hd he (by rw [attempt_silentTo hm', ← hdiv]; exact attempts_lt s.regs hm),
      nextAttempt_of_hunt (by exact hr)]
    simp only [hattempt, hframe]
    simp only [silentTo, hmod]
  · have hlt : m % attemptTicks s.regs + 1 < attemptTicks s.regs := by
      rw [readExpired_silentTo_iff] at he
      have := Nat.mod_lt m (attemptTicks_range s.regs).1
      omega
    obtain ⟨hdiv, hmod⟩ := succ_divMod_of_lt hlt
    rw [tickRx_of_waiting hd he, hframe, satInc_byte_silentTo, ← hmod]
    simp only [silentTo, hdiv]

/-- Its last tick ends it: the frame deadline, or the last attempt. -/
theorem tickRx_silentTo_last (hr : s.status.rxst = .hunt) (ho : s.status.op = opReceive) (hm : m + 1 = lastTick s.regs) :
    ∃ timers counters, tickRx (silentTo m s) =
      .next (finish codeReceiveTimeout { s with timers := timers, counters := counters }) := by
  have hm' : m < lastTick s.regs := by omega
  have hcode : timeoutCode (silentTo m s).status.op = codeReceiveTimeout := if_pos ho
  by_cases hd : DeadlinePassed (silentTo m s)
  · rw [tickRx_of_deadline (s := silentTo m s) (.inl ho) hd, hcode]
    exact ⟨_, _, rfl⟩
  · have hlast : m + 1 = attemptTicks s.regs * max s.regs.retryLimit.toNat 1 := by
      rw [deadlinePassed_silentTo_iff hm'] at hd
      unfold lastTick at hm
      split_ifs at hm with h0
      · exact hm
      · have hlt := not_le.1 fun hle => hd ⟨h0, hle⟩
        omega
    have he : ReadExpired (silentTo m s) := by
      rw [readExpired_silentTo_iff]
      by_contra hne
      have := Nat.mod_lt m (attemptTicks_range s.regs).1
      obtain ⟨-, hmod⟩ := succ_divMod_of_lt (m := m) (B := attemptTicks s.regs) (by omega)
      rw [hlast, Nat.mul_mod_right] at hmod
      omega
    obtain ⟨hdiv, -⟩ := succ_divMod_of_eq (readExpired_silentTo_iff.1 he)
    have hall : max s.regs.retryLimit.toNat 1 ≤ m / attemptTicks s.regs + 1 := by
      rw [← hdiv, hlast, Nat.mul_div_cancel_left _ (attemptTicks_range s.regs).1]
    rw [tickRx_of_last_attempt (s := silentTo m s) (.inl ho) hd he (by rw [attempt_silentTo hm']; exact hall), hcode,
      nextAttempt_of_hunt (by exact hr)]
    exact ⟨_, _, rfl⟩

/-! ### The run -/

/-- A RECEIVE hunts on a CONNECTED line with nothing in the FIFO. -/
structure State.Silent (s : State) : Prop where
  phase : s.status.phase = .rx
  rxst : s.status.rxst = .hunt
  op : s.status.op = opReceive
  link : s.status.link = .connected
  fifo : s.fifo = []

/-- A tick of a silent RX phase is that phase's part of a tick. -/
theorem State.Silent.step_tick (h : s.Silent) (m : Nat) (es : List Event) :
    step { silentTo m s with inbox := .tick :: es } = tickRx (silentTo m { s with inbox := es }) := by
  have hi : internalEnabled { silentTo m s with inbox := .tick :: es } = false := by
    simp [internalEnabled, rxConsumeEnabled, lbEmitEnabled, silentTo, h.phase, h.fifo]
  rw [step_of_tick rfl hi]
  exact tick_of_rx (s := silentTo m { s with inbox := es }) h.phase h.link

/-- Before the last tick the phase goes on, whatever choices wait. -/
theorem State.Silent.step_before (h : s.Silent) (hm : m + 1 < lastTick s.regs) (es : List Event) :
    step { silentTo m s with inbox := .tick :: es } = .next { silentTo (m + 1) s with inbox := es } :=
  (h.step_tick m es).trans (tickRx_silentTo (s := { s with inbox := es }) h.rxst hm)

theorem State.Silent.run_before (h : s.Silent) (hm : m < lastTick s.regs) (es : List Event) (k : Nat) :
    runSteps (List.replicate m .tick ++ es) (m + k) (silentTo 0 s) = runSteps es k (silentTo m s) :=
  runSteps_replicate (g := fun i => silentTo i s) (fun _ hi es => h.step_before (by omega) es) es k

theorem State.Silent.run_last (h : s.Silent) : ∃ timers counters,
    runSteps (List.replicate (lastTick s.regs) .tick) (lastTick s.regs) (silentTo 0 s) =
      .next (finish codeReceiveTimeout { s with inbox := [], timers := timers, counters := counters }) := by
  have hpos := lastTick_pos s.regs
  obtain ⟨m, hm⟩ : ∃ m, lastTick s.regs = m + 1 := ⟨lastTick s.regs - 1, by omega⟩
  obtain ⟨timers, counters, hend⟩ := tickRx_silentTo_last (s := { s with inbox := [] }) h.rxst h.op hm.symm
  rw [hm]
  exact ⟨timers, counters, runSteps_replicate_last (g := fun i => silentTo i s)
    (fun _ hi es => h.step_before (by omega) es) ((h.step_tick m []).trans hend)⟩

/-- A RECEIVE begins with both timers and CNT_ATTEMPT at 0 (R521). -/
theorem silentTo_receiveStart (s : State) : silentTo 0 (receiveStart s) = receiveStart s := by
  simp [silentTo, receiveStart, startRx]

/-- A run of no steps ends where it begins. -/
theorem runSteps_zero (es : List Event) (s : State) : runSteps es 0 s = .next { s with inbox := es } := rfl

/-- Settles O22: every tick before the last leads to `silentTo`, and the last one ends the command with the timeout. -/
theorem silentReceiveTimesOut : Obligations.SilentReceiveTimesOut := by
  intro s hb hl hf attempts n es
  have hn : n = lastTick s.regs := rfl
  have hsilent : (receiveStart s).Silent := ⟨rfl, rfl, rfl, hl, hf⟩
  have hstart (k : Nat) : runSteps es (k + 1) s = runSteps (List.replicate n .tick) k (receiveStart s) :=
    runSteps_cons (by simp [cmdEvent]) (perform_receive (s := { s with inbox := List.replicate n .tick }) hb hl) rfl k
  clear_value es n
  subst hn
  constructor
  · intro m hm
    have hrun := hsilent.run_before hm (List.replicate (lastTick s.regs - m) .tick) 0
    rw [silentTo_receiveStart, List.replicate_append_replicate, Nat.add_sub_cancel' hm.le] at hrun
    exact ⟨_, (hstart m).trans (hrun.trans (runSteps_zero ..)), rfl, rfl⟩
  · obtain ⟨timers, counters, hrun⟩ := hsilent.run_last
    rw [silentTo_receiveStart] at hrun
    exact ⟨_, (hstart (lastTick s.regs)).trans hrun, rfl, rfl, rfl, rfl, rfl, hl⟩

end Sys2Proof.Machine
end

section
/-! PROOFS. How a step can move the link, and how a command ends, over every step (41_transport.md R505, R520):
`Obligations.LinkTransitions`, `Obligations.CommandCompletion`.

Most operations leave the link alone and either leave a running command running or finish it (`CommandStep`); the others move
the link (`LinkMove`). `step_effect` says so of every step, and both statements are read off it. -/

namespace Sys2Proof.Machine

variable {s t u : State} {b : Byte}

/-! ### Operations that leave the link alone -/

/-- A running command goes on, or ends by `finish`. -/
def GoesOn (s t : State) : Prop := s.status.busy = true → t.status.busy = true ∨ ∃ code u, t = finish code u

theorem goesOn_of_busy (hb : t.status.busy = s.status.busy := by simp) : GoesOn s t := fun h => .inl (hb.trans h)

theorem goesOn_finish (code : Byte) (u : State) : GoesOn s (finish code u) := fun _ => .inr ⟨code, u, rfl⟩

/-- What every step does that is not one of the link's own. -/
structure CommandStep (s t : State) : Prop where
  link : t.status.link = s.status.link
  armed : t.status.armed = s.status.armed
  goesOn : GoesOn s t

theorem CommandStep.of_busy (hl : t.status.link = s.status.link := by simp) (ha : t.status.armed = s.status.armed := by simp)
    (hb : t.status.busy = s.status.busy := by simp) : CommandStep s t :=
  ⟨hl, ha, goesOn_of_busy hb⟩

theorem CommandStep.of_finish {code : Byte} (hl : u.status.link = s.status.link := by simp)
    (ha : u.status.armed = s.status.armed := by simp) : CommandStep s (finish code u) :=
  ⟨hl, ha, goesOn_finish code u⟩

/-- What has been done before may be anything that leaves these three fields of STATUS. -/
theorem CommandStep.after (h : CommandStep u t) (hl : u.status.link = s.status.link := by simp)
    (ha : u.status.armed = s.status.armed := by simp) (hb : u.status.busy = s.status.busy := by simp) : CommandStep s t :=
  ⟨h.link.trans hl, h.armed.trans ha, fun hs => h.goesOn (hb.trans hs)⟩

theorem commandStep_txDone (h : txDone s = .next t) : CommandStep s t := by
  obtain ⟨-, rfl⟩ | ⟨-, rfl⟩ | ⟨-, rfl⟩ := txDone_next h
  · exact .of_finish
  · exact .of_busy
  · exact .of_finish

theorem commandStep_advanceTx (h : advanceTx s = .next t) : CommandStep s t := by
  obtain ⟨-, hd⟩ | ⟨-, rfl⟩ := advanceTx_next h
  · exact (commandStep_txDone hd).after
  · exact .of_busy

theorem commandStep_txAccept (h : txAccept s = .next t) : CommandStep s t := by
  obtain ⟨b, -, ha⟩ := txAccept_next h
  exact (commandStep_advanceTx ha).after

theorem commandStep_lbEmit (h : lbEmit s = .next t) : CommandStep s t := by
  obtain ⟨b, -, ha⟩ := lbEmit_next h
  exact (commandStep_advanceTx ha).after

theorem commandStep_receiveDone (code : Byte) (s : State) : CommandStep s (receiveDone code s) := by
  unfold receiveDone
  split_ifs
  · exact ⟨rfl, rfl, fun _ => .inl rfl⟩
  · exact .of_finish

theorem commandStep_transactDone (code : Byte) (s : State) : CommandStep s (transactDone code s) := by
  unfold transactDone
  dsimp only
  split_ifs <;> exact .of_finish

theorem recordFrame_status (v : Byte × Bool) (s : State) : (recordFrame v s).status = { s.status with rxst := .idle } := by
  rw [recordFrame_eq]

theorem commandStep_frameDone (h : frameDone s = .next t) : CommandStep s t := by
  obtain ⟨-, rfl⟩ | ⟨-, rfl⟩ := frameDone_next h
  · exact (commandStep_receiveDone _ _).after (by simp [recordFrame_status]) (by simp [recordFrame_status])
      (by simp [recordFrame_status])
  · exact (commandStep_transactDone _ _).after (by simp [recordFrame_status]) (by simp [recordFrame_status])
      (by simp [recordFrame_status])

theorem commandStep_collect (h : collect b s = .next t) : CommandStep s t := by
  obtain ⟨-, ⟨-, he⟩ | ⟨-, rfl⟩⟩ := collect_next h
  · obtain ⟨-, rfl⟩ | ⟨-, hd⟩ := endOfFrame_next he
    · exact .of_busy
    · exact (commandStep_frameDone hd).after
  · exact .of_busy

theorem commandStep_hunt (b : Byte) (s : State) : CommandStep s (hunt b s) := by
  unfold hunt
  split_ifs <;> exact .of_busy

theorem commandStep_rxConsume (h : rxConsume s = .next t) : CommandStep s t := by
  obtain ⟨-, rfl⟩ | ⟨b, rest, -, ⟨-, rfl⟩ | ⟨-, hc⟩⟩ := rxConsume_next h
  · exact .of_busy rfl rfl rfl
  · exact (commandStep_hunt b _).after
  · exact (commandStep_collect hc).after

theorem commandStep_internalStep (he : internalEnabled s = true) (h : internalStep s = .next t) : CommandStep s t := by
  obtain ⟨-, hs⟩ | ⟨-, hs⟩ := internalStep_cases he <;> rw [hs] at h
  · exact commandStep_rxConsume h
  · exact commandStep_lbEmit h

theorem commandStep_timeoutFinish (h : timeoutFinish s = .next t) : CommandStep s t := by
  obtain ⟨-, rfl⟩ | ⟨-, rfl⟩ := timeoutFinish_next h <;> exact .of_finish

theorem commandStep_readTimeout (h : readTimeout s = .next t) : CommandStep s t := by
  rw [readTimeout_eq] at h
  split_ifs at h
  · exact (commandStep_timeoutFinish h).after rfl rfl rfl
  · cases h
    exact .of_busy rfl rfl rfl

theorem commandStep_tickRx (h : tickRx s = .next t) : CommandStep s t := by
  by_cases hd : DeadlinePassed s
  · have hend : tickRx s = timeoutFinish _ := (if_pos hd).trans (frameDeadline_eq _)
    exact (commandStep_timeoutFinish (hend.symm.trans h)).after rfl rfl rfl
  · by_cases hr : ReadExpired s
    · rw [tickRx_of_expired hd hr] at h
      exact (commandStep_readTimeout h).after rfl rfl rfl
    · rw [tickRx_of_waiting hd hr] at h
      cases h
      exact .of_busy rfl rfl rfl

theorem commandStep_rxByte (b : Byte) (s : State) : CommandStep s (rxByte b s) := by
  unfold rxByte
  split_ifs <;> exact .of_busy

theorem commandStep_regWrite (off : Nat) (v : Word) (s : State) : CommandStep s (regWrite off v s) := by
  obtain ⟨_, _, _, _, he, -⟩ := regWrite_eq off v s
  rw [he]
  exact .of_busy rfl rfl rfl

theorem commandStep_bufWrite (locked : Bool) (a n : Nat) (v : Word) (s : State) : CommandStep s (bufWrite locked a n v s) := by
  unfold bufWrite
  split_ifs <;> exact .of_busy

theorem commandStep_startTransmit (adr c1 c2 : Byte) (s : State) : CommandStep s (startTransmit adr c1 c2 s) := by
  obtain ⟨-, he⟩ | ⟨-, -, he⟩ | ⟨-, -, he⟩ := startTransmit_cases adr c1 c2 s <;> rw [he]
  · exact .of_finish
  · exact .of_finish
  · exact ⟨rfl, rfl, fun _ => .inl rfl⟩

theorem commandStep_startReceive (s : State) : CommandStep s (startReceive s) := by
  unfold startReceive
  split_ifs
  · exact .of_finish
  · exact ⟨rfl, rfl, fun _ => .inl rfl⟩

theorem commandStep_validateRxbuf (s : State) : CommandStep s (validateRxbuf s) := by
  unfold validateRxbuf
  split_ifs <;> exact .of_finish

theorem commandStep_rejectCommand (s : State) : CommandStep s (rejectCommand s) := .of_busy

theorem commandStep_illegalCommand (op : BitVec 4) (s : State) : CommandStep s (illegalCommand op s) := by
  unfold illegalCommand
  split_ifs
  · exact .of_busy
  · exact .of_finish

/-! ### What moves the link (R505) -/

/-- The steps that can move the link, with the states they move it between. -/
inductive LinkMove (s t : State) : Prop where
  | reconnect (hn : nextEvent s = .tick) (hs : s.status.link = .disconnected) (ha : s.status.armed = true)
      (ht : t.status.link = .connecting)
  | connect (hn : nextEvent s = cmdEvent (encode .connect)) (hs : s.status.link = .disconnected)
      (ht : t.status.link = .connecting)
  | disconnect (hn : nextEvent s = cmdEvent (encode .disconnect)) (ht : t.status.link = .disconnected)
      (ha : t.status.armed = false)
  | openOk (hn : nextEvent s = .openOk) (hs : s.status.link = .connecting) (ht : t.status.link = .connected)
  | openFail (hn : nextEvent s = .openFail) (hs : s.status.link = .connecting) (ht : t.status.link = .disconnected)
  | ioError (hn : nextEvent s = .ioError) (hs : s.status.link = .connected) (ht : t.status.link = .disconnected)

/-- What a step can do to the link and to a running command. -/
inductive StepEffect (s t : State) : Prop where
  | command (h : CommandStep s t)
  | link (hg : GoesOn s t) (h : LinkMove s t)
  | reset (hn : nextEvent s = .reset) (hl : t.status.link = .disconnected) (ha : t.status.armed = false)

theorem openLine_effect (s : State) : CommandStep s (openLine s) ∨
    (s.status.link = .disconnected ∧ (openLine s).status.link = .connecting) := by
  unfold openLine
  split
  · exact .inl .of_finish
  · exact .inl ⟨rfl, rfl, fun _ => .inl rfl⟩
  · next hl => exact .inr ⟨hl, rfl⟩

/-- Of the commands CONNECT and DISCONNECT alone can move the link. -/
theorem exec_effect {i : Instr} (h : exec i s = .next t) : CommandStep s t ∨
    (i = .connect ∧ GoesOn s t ∧ s.status.link = .disconnected ∧ t.status.link = .connecting) ∨
    (i = .disconnect ∧ GoesOn s t ∧ t.status.link = .disconnected ∧ t.status.armed = false) := by
  have hdisconnect (code : Byte) : GoesOn s (finish code (disconnectLine s)) ∧
      (finish code (disconnectLine s)).status.link = .disconnected ∧ (finish code (disconnectLine s)).status.armed = false :=
    ⟨goesOn_finish _ _, by rw [finish_disconnectLine], by rw [finish_disconnectLine]⟩
  obtain hb | hb := Bool.eq_false_or_eq_true s.status.busy
  · obtain ⟨-, -, he⟩ | ⟨-, rfl, -, he⟩ | ⟨hb', -⟩ := exec_next i s
    · cases he.symm.trans h
      exact .inl (commandStep_rejectCommand s)
    · cases he.symm.trans h
      exact .inr (.inr ⟨rfl, hdisconnect _⟩)
    · simp [hb] at hb'
  · rw [exec_idle i hb] at h
    cases h
    cases i with
    | nop => exact .inl (.of_busy rfl rfl rfl)
    | connect =>
      obtain hc | ⟨hs, ht⟩ := openLine_effect (acceptCommand opConnect s)
      · exact .inl hc.after
      · exact .inr (.inl ⟨rfl, fun hb' => by simp [hb] at hb', hs, ht⟩)
    | disconnect => exact .inr (.inr ⟨rfl, hdisconnect _⟩)
    | send => exact .inl (commandStep_startTransmit ..).after
    | receive => exact .inl (commandStep_startReceive _).after
    | transact => exact .inl (commandStep_startTransmit ..).after
    | respond rtn => exact .inl (commandStep_startTransmit ..).after
    | validate => exact .inl (commandStep_validateRxbuf _).after

/-- Register accesses are 4 bytes wide (20_memory.md R206). -/
theorem width_of_regionOf_reg {a n : Nat} (h : regionOf a n = .reg) : n = 4 := by
  unfold regionOf at h
  split_ifs at h with h1
  exact h1.1

theorem hostWrite_effect {a : BitVec 16} {n : Nat} {v : Word} (hn : nextEvent s = .hostWrite a n v)
    (h : hostWrite a n v (takeEvent s) = .next t) : StepEffect s t := by
  obtain ⟨-, he⟩ | ⟨-, hr, rfl, he⟩ | ⟨-, -, -, he⟩ | ⟨-, -, he⟩ | ⟨-, -, he⟩ := hostWrite_cases a n v (takeEvent s) <;>
    rw [he] at h
  · cases h
    exact .command .of_busy
  · obtain rfl := width_of_regionOf_reg hr
    obtain ⟨i, hd, hc⟩ | ⟨-, -, hc⟩ := cmdWrite_cases v (answer .done (takeEvent s)) <;> rw [hc] at h
    · obtain rfl := (decode_eq_instr_iff i).1 hd
      have hgo (hg : GoesOn (answer .done (takeEvent s)) t) : GoesOn s t := fun hb => hg (by simpa using hb)
      obtain hk | ⟨rfl, hg, hs, ht⟩ | ⟨rfl, hg, ht, ha⟩ := exec_effect h
      · exact .command hk.after
      · exact .link (hgo hg) (.connect hn (by simpa using hs) ht)
      · exact .link (hgo hg) (.disconnect hn ht ha)
    · cases h
      exact .command (commandStep_illegalCommand _ _).after
  · cases h
    exact .command (commandStep_regWrite _ _ _).after
  · cases h
    exact .command (commandStep_bufWrite _ _ _ _ _).after
  · cases h
    exact .command (commandStep_bufWrite _ _ _ _ _).after

theorem tickReconn_status (s : State) : (tickReconn s).status = s.status ∨
    (s.status.link = .disconnected ∧ s.status.armed = true ∧
      (tickReconn s).status = { s.status with link := .connecting }) := by
  unfold tickReconn
  dsimp only
  split_ifs with hr
  · exact .inr ⟨hr.1, hr.2, rfl⟩
  · exact .inl rfl
  · exact .inl rfl

/-- A tick moves the link only by reconnecting. -/
theorem tick_effect (h : tick s = .next t) : CommandStep s t ∨
    (GoesOn s t ∧ s.status.link = .disconnected ∧ s.status.armed = true ∧ t.status.link = .connecting) := by
  have hk : CommandStep (tickReconn s) t := by
    unfold tick at h
    split_ifs at h
    · exact commandStep_tickRx h
    · cases h
      exact .of_busy rfl rfl rfl
  obtain hs | ⟨hl, ha, hs⟩ := tickReconn_status s
  · exact .inl (hk.after (by rw [hs]) (by rw [hs]) (by rw [hs]))
  · refine .inr ⟨fun hb => hk.goesOn (by rw [hs]; exact hb), hl, ha, ?_⟩
    rw [hk.link, hs]

theorem openOk_link (s : State) : (openOk s).status.link = .connected := by
  unfold openOk
  dsimp only
  split_ifs <;> rfl

theorem openFail_link (s : State) : (openFail s).status.link = .disconnected := by
  unfold openFail
  dsimp only
  split_ifs <;> rfl

theorem goesOn_openOk (s : State) : GoesOn s (openOk s) := by
  unfold openOk
  dsimp only
  split_ifs
  · exact goesOn_finish _ _
  · exact goesOn_of_busy

theorem goesOn_openFail (s : State) : GoesOn s (openFail s) := by
  unfold openFail
  dsimp only
  split_ifs
  · exact goesOn_finish _ _
  · exact goesOn_of_busy

theorem ioError_effect (h : ioError s = .next t) : GoesOn s t ∧ t.status.link = .disconnected := by
  obtain ⟨-, -, rfl⟩ | ⟨-, -, rfl⟩ | ⟨-, rfl⟩ | ⟨-, rfl⟩ := ioError_next h
  · exact ⟨goesOn_finish _ _, rfl⟩
  · exact ⟨goesOn_finish _ _, rfl⟩
  · exact ⟨goesOn_finish _ _, rfl⟩
  · exact ⟨goesOn_of_busy, rfl⟩

theorem GoesOn.of_takeEvent (h : GoesOn (takeEvent s) t) : GoesOn s t := fun hb => h (by simpa using hb)

/-- The effect of every step (R500), by its choice. -/
theorem step_effect (h : step s = .next t) : StepEffect s t := by
  have passed : StepEffect s (takeEvent s) := .command .of_busy
  obtain hk | hk := Decidable.em (nextEvent s = .tick ∧ internalEnabled s = true)
  · rw [step_internal hk.1 hk.2] at h
    exact .command (commandStep_internalStep hk.2 h)
  rw [step, if_neg hk] at h
  cases hn : nextEvent s with
  | hostRead a n =>
    rw [hn] at h
    cases h
    have hr : CommandStep (takeEvent s) (hostRead a n (takeEvent s)) := .of_busy rfl rfl rfl
    exact .command hr.after
  | hostWrite a n v =>
    rw [hn] at h
    exact hostWrite_effect hn h
  | rxByte b =>
    rw [hn] at h
    cases h
    exact .command (commandStep_rxByte b _).after
  | txAccept =>
    rw [hn, perform] at h
    split_ifs at h
    · exact .command (commandStep_txAccept h).after
    · cases h
      exact passed
  | openOk =>
    rw [hn, perform] at h
    split_ifs at h with hl <;> cases h
    · exact .link (goesOn_openOk _).of_takeEvent (.openOk hn (by simpa using hl) (openOk_link _))
    · exact passed
  | openFail =>
    rw [hn, perform] at h
    split_ifs at h with hl <;> cases h
    · exact .link (goesOn_openFail _).of_takeEvent (.openFail hn (by simpa using hl) (openFail_link _))
    · exact passed
  | ioError =>
    rw [hn, perform] at h
    split_ifs at h with hl
    · obtain ⟨hg, ht⟩ := ioError_effect h
      exact .link hg.of_takeEvent (.ioError hn (by simpa using hl) ht)
    · cases h
      exact passed
  | tick =>
    rw [hn] at h
    obtain hc | ⟨hg, hl, ha, ht⟩ := tick_effect h
    · exact .command hc.after
    · exact .link hg.of_takeEvent (.reconnect hn (by simpa using hl) (by simpa using ha) ht)
  | rxConsume =>
    rw [hn, perform] at h
    split_ifs at h
    · exact .command (commandStep_rxConsume h).after
    · cases h
      exact passed
  | lbEmit =>
    rw [hn, perform] at h
    split_ifs at h
    · exact .command (commandStep_lbEmit h).after
    · cases h
      exact passed
  | reset =>
    rw [hn] at h
    cases h
    exact .reset hn rfl rfl

/-! ### The statements -/

/-- A CONNECT in an idle block asks for a line that is DISCONNECTED (R511). -/
theorem step_connect (hn : nextEvent s = cmdEvent (encode .connect)) (hb : s.status.busy = false)
    (hl : s.status.link = .disconnected) : ∃ t, step s = .next t ∧ t.status.link = .connecting := by
  have hstep : step s = exec .connect (answer .done (takeEvent s)) := by
    rw [step_of_nextEvent hn (by simp [cmdEvent]), perform_cmdEvent, cmdWrite_encode]
  refine ⟨_, hstep.trans (exec_idle .connect (by simpa using hb)), ?_⟩
  have hl' : (acceptCommand opConnect (answer .done (takeEvent s))).status.link = .disconnected := by simpa using hl
  rw [accepted, openLine_disconnected hl']
  rfl

/-- Settles O27: `LinkMove` lists what moves the link, and none of its steps but CONNECT leaves a link that is DISCONNECTED and
not ARMED. -/
theorem linkTransitions : Obligations.LinkTransitions := by
  refine ⟨fun s h => h.connectedArmed, fun s t h hne => ?moves, fun s hi => ⟨fun hl hn => ?_, fun hl hn => ?_, fun hl hn => ?_⟩,
    fun s t hl ha h hn => ?stays⟩
  case moves =>
    obtain hc | ⟨-, hm⟩ | ⟨hn, ht, -⟩ := step_effect h
    · exact absurd hc.link hne
    · obtain ⟨hn, hs, ha, ht⟩ | ⟨hn, hs, ht⟩ | ⟨hn, ht, -⟩ | ⟨hn, hs, ht⟩ | ⟨hn, hs, ht⟩ | ⟨hn, hs, ht⟩ := hm
      · exact .inl ⟨hs, ht, .inl ⟨hn, ha⟩⟩
      · exact .inl ⟨hs, ht, .inr hn⟩
      · cases hs : s.status.link with
        | disconnected => exact absurd (ht.trans hs.symm) hne
        | connecting => exact .inr (.inr (.inl ⟨rfl, ht, .inr (.inl hn)⟩))
        | connected => exact .inr (.inr (.inr ⟨rfl, ht, .inr (.inl hn)⟩))
      · exact .inr (.inl ⟨hs, ht, hn⟩)
      · exact .inr (.inr (.inl ⟨hs, ht, .inl hn⟩))
      · exact .inr (.inr (.inr ⟨hs, ht, .inl hn⟩))
    · cases hs : s.status.link with
      | disconnected => exact absurd (ht.trans hs.symm) hne
      | connecting => exact .inr (.inr (.inl ⟨rfl, ht, .inr (.inr hn)⟩))
      | connected => exact .inr (.inr (.inr ⟨rfl, ht, .inr (.inr hn)⟩))
  · exact step_connect hn (hi.busy_of_idle (hi.phase_of_disconnected hl)) hl
  · exact ⟨_, step_openOk hn hl, openOk_link _⟩
  · obtain ⟨t, ht, -⟩ := stepKeepsInvariant s hi
    exact ⟨t, ht, (ioError_effect ((step_ioError hn hl).symm.trans ht)).2⟩
  case stays =>
    obtain hc | ⟨-, hm⟩ | ⟨-, ht, ha'⟩ := step_effect h
    · exact ⟨hc.link.trans hl, hc.armed.trans ha⟩
    · obtain ⟨-, -, ha', -⟩ | ⟨hn', -, -⟩ | ⟨-, ht, ha'⟩ | ⟨-, hs, -⟩ | ⟨-, hs, -⟩ | ⟨-, hs, -⟩ := hm
      · simp [ha] at ha'
      · exact absurd hn' hn
      · exact ⟨ht, ha'⟩
      · simp [hl] at hs
      · simp [hl] at hs
      · simp [hl] at hs
    · exact ⟨ht, ha'⟩

/-- `finish` sets DONE, and ERR unless the code is 0 (R520). -/
theorem finish_flags (code : Byte) (s : State) :
    (finish code s).intStatus.getLsbD 0 = true ∧ (code ≠ 0x00#8 → (finish code s).intStatus.getLsbD 1 = true) := by
  rw [finish_intStatus, finishFlags_eq, BitVec.getLsbD_or, BitVec.getLsbD_or]
  split_ifs with h
  · exact ⟨by simp, fun hne => absurd h hne⟩
  · exact ⟨by simp, fun _ => by simp⟩

/-- Settles O29: `step_effect` leaves `finish` as the only step but reset that ends a running command. -/
theorem commandCompletion : Obligations.CommandCompletion := by
  refine ⟨fun _ _ => rfl, fun s t hb h ht hn => ?_⟩
  have hg : GoesOn s t := by
    obtain hc | ⟨hg, -⟩ | ⟨hn', -, -⟩ := step_effect h
    · exact hc.goesOn
    · exact hg
    · exact absurd hn' hn
  obtain hb' | ⟨code, u, rfl⟩ := hg hb
  · simp [ht] at hb'
  · obtain ⟨hdone, herr⟩ := finish_flags code u
    exact ⟨rfl, rfl, hdone, herr⟩

end Sys2Proof.Machine
end

section
/-! PROOFS. The protocol engine (42_engine.md R602, R611, R612, R630): `Obligations.RtnClassTable`, `Obligations.TransactDone`,
`Obligations.RespondEchoesTheHeader`, `Obligations.LoopbackSelfTest`.

RESPOND is a CMD write and then a stretch of `tx_accept` steps. The self-test is a CMD write and two stretches of internal steps,
which `settle` follows: the request goes round into the FIFO (`loopedTo`), and is stored in RXBUF from there (`collectedTo`). -/

namespace Sys2Proof.Machine

variable {s t : State} {op : BitVec 4} {b adr c1 c2 : Byte} {f rest : List Byte}

/-! ### The RTN class (R602) -/

theorem rtnClassOf_toNat_of_le {r : Byte} (h : r.toNat ≤ 0x06) : (rtnClassOf r).toNat = r.toNat := by
  unfold rtnClassOf
  generalize r.toNat = n at h
  interval_cases n <;> rfl

/-- Above the assigned codes the class tells only the user range from the rest. -/
theorem rtnClassOf_of_lt {r : Byte} (h : 0x06 < r.toNat) :
    rtnClassOf r = if 0x80 ≤ r.toNat ∧ r.toNat ≤ 0xEF then 7#4 else 8#4 := by
  unfold rtnClassOf
  split
  case h_8 => rfl
  all_goals omega

/-- Settles O55: the table by its two ranges of codes, and the raw byte by the layout of RX_HDR. -/
theorem rtnClassTable : Obligations.RtnClassTable := by
  refine ⟨fun r => ⟨rtnClassOf_toNat_of_le, fun h => ?user, fun h => ?reserved⟩, fun s => ?raw⟩
  case user => rw [rtnClassOf_of_lt (by omega), if_pos h]
  case reserved => rw [rtnClassOf_of_lt (by omega), if_neg (by omega)]
  case raw =>
    obtain ⟨-, -, -, hcid2⟩ := rxHdrWord_fields s
    exact hcid2

/-! ### The end of a TRANSACT (R612) -/

theorem transactDone_of_ne_ok {code : Byte} (hc : code ≠ codeOk) (s : State) : transactDone code s = finish code s :=
  if_pos hc

/-- A valid response ends the TRANSACT with its RTN's class, and OK or DEVICE_ERROR. -/
theorem transactDone_ok (s : State) : transactDone codeOk s =
    finish (if rxCid2 s = 0x00#8 then codeOk else codeDeviceError)
      { s with result := { s.result with rtnClass := rtnClassOf (rxCid2 s) } } := by
  rw [transactDone, if_neg (not_not_intro rfl)]
  split_ifs <;> rfl

/-- Settles O36: by the code, and then by RXBUF[4]. -/
theorem transactDone_classifies : Obligations.TransactDone := by
  refine fun s code => ⟨fun hc => transactDone_of_ne_ok hc s, fun hc => ?_⟩
  rw [hc]
  exact transactDone_ok s

/-! ### The start of a transmitting command, by a CMD write (R513, R610, R611) -/

theorem perform_transmit {i : Instr}
    (he : exec i (answer .done s) = .next (startTransmit adr c1 c2 (acceptCommand op (answer .done s))))
    (hl : s.status.link = .connected) (hn : txLenNat s ≤ maxLen) :
    perform (cmdEvent (encode i)) s = .next (transmitStart op adr c1 c2 s) := by
  obtain ⟨-, -, hbegin⟩ := beginsTransmit_of_exec he
  rw [perform_cmdEvent, cmdWrite_encode]
  exact hbegin hl hn

/-- A line with a command is its CMD write and the internal steps that follow (R830). -/
theorem runLine_cmd {i : Instr} (h : perform (cmdEvent (encode i)) s = .next t) : runLine (.cmd i) s = settle t := by
  rw [runLine, lineEvents, performAll, lineStep, if_neg (by simp [cmdEvent]), h]
  rfl

theorem length_img_transmitStart (op : BitVec 4) (adr c1 c2 : Byte) (s : State) :
    (transmitStart op adr c1 c2 s).tx.img.length = minFrame + txLenNat s :=
  (encodeFrame_length ..).trans (congrArg _ (txPayload_length ..))

/-! ### RESPOND (R611) -/

/-- A RESPOND begins the TX phase of the frame with the header echoed from RXBUF. -/
theorem runSteps_respond (rtn : Byte) (hb : s.status.busy = false) (hl : s.status.link = .connected)
    (hn : txLenNat s ≤ maxLen) (es : List Event) (k : Nat) :
    runSteps (cmdEvent (encode (.respond rtn)) :: es) (k + 1) s =
      runSteps es k (transmitStart opRespond (rxAdr s) (rxCid1 s) rtn s) :=
  runSteps_cons (by simp [cmdEvent])
    (perform_transmit (s := { s with inbox := es }) (exec_idle (.respond rtn) hb) hl hn) rfl k

/-- Settles O20: the two refusals, then the frame on the line up to its end or up to a failure, and the example. -/
theorem respondEchoesTheHeader : Obligations.RespondEchoesTheHeader := by
  refine ⟨fun rtn => rfl, ?_, by decide⟩
  intro s rtn hb n frame
  obtain ⟨hnotConnected, htooLong, -⟩ := beginsTransmit_of_exec (exec_idle (.respond rtn) hb)
  let v := transmitStart opRespond (rxAdr s) (rxCid1 s) rtn s
  have himg : v.tx.img = frame := rfl
  have hlen : frame.length = 10 + n := length_img_transmitStart opRespond (rxAdr s) (rxCid1 s) rtn s
  refine ⟨hnotConnected, htooLong, fun hl hn hlb => ⟨?sent, fun m hm => ?failed⟩⟩
  case sent =>
    have hrun := runSteps_sent (s := v) rfl hlb rfl (by rw [himg]; omega)
    rw [himg, hlen] at hrun
    have htake : frame.take (10 + n) = frame := List.take_of_length_le hlen.le
    rw [show 11 + n = 10 + n + 1 by omega, runSteps_respond rtn hb hl hn, hrun, txDone_sent (.inr rfl)]
    simp only [sentTo, himg, htake]
    rfl
  case failed =>
    refine ⟨finish codeWriteFailure (dropLine { sentTo m v with inbox := [] }), ?_, rfl, rfl, rfl⟩
    rw [show m + 2 = m + 1 + 1 from rfl, runSteps_respond rtn hb hl hn,
      runSteps_sentTo (s := v) rfl hlb rfl (by rw [himg]; omega)]
    exact runSteps_ioError_sentTo (s := v) rfl (show opRespond ≠ opReceive by decide) hl

/-! ### Stretches of internal steps (70_reset_and_hazards.md R830) -/

/-- Any two bounds above the internal measure let the same internal steps happen. -/
theorem settleWithin_congr {n m : Nat} (hn : internalMeasure s < n) (hm : internalMeasure s < m) :
    settleWithin n s = settleWithin m s := by
  induction n generalizing m s with
  | zero => omega
  | succ n ih =>
    obtain ⟨m, rfl⟩ : ∃ k, m = k + 1 := ⟨m - 1, by omega⟩
    unfold settleWithin
    split_ifs with he
    · cases hstep : internalStep s with
      | next u =>
        have := internalStep_measure he hstep
        exact ih (by omega) (by omega)
      | fault r => rfl
      | refused r => rfl
    · rfl

/-- `settle` takes an internal step and goes on. -/
theorem settle_of_internalStep (he : internalEnabled s = true) (h : internalStep s = .next t) : settle s = settle t := by
  have hlt := internalStep_measure he h
  calc settle s = andThen (internalStep s) (settleWithin (internalMeasure s)) := if_pos he
    _ = settleWithin (internalMeasure s) t := by rw [h, andThen_next]
    _ = settle t := settleWithin_congr hlt (Nat.lt_succ_self _)

/-- `settle` goes through a stretch of internal steps. -/
theorem settle_stretch {m : Nat} {g : Nat → State}
    (hstep : ∀ i < m, internalEnabled (g i) = true ∧ internalStep (g i) = .next (g (i + 1))) :
    settle (g 0) = settle (g m) := by
  induction m with
  | zero => rfl
  | succ m ih =>
    obtain ⟨he, hs⟩ := hstep m (Nat.lt_succ_self m)
    rw [ih fun i hi => hstep i (Nat.lt_succ_of_lt hi), settle_of_internalStep he hs]

theorem internalStep_of_tx (hp : s.status.phase = .tx) (hb : s.regs.loopback = true) :
    internalEnabled s = true ∧ internalStep s = lbEmit s := by
  simp [internalEnabled, internalStep, rxConsumeEnabled, lbEmitEnabled, hp, hb]

theorem internalStep_of_rx (hp : s.status.phase = .rx) (hf : s.fifo = b :: rest) :
    internalEnabled s = true ∧ internalStep s = rxConsume s := by
  have he := rxConsumeEnabled_of_cons hp hf
  simp [internalEnabled, internalStep, he]

/-! ### The loopback self-test (R630) -/

/-- In loopback a TRANSACT's request goes into the FIFO, byte by byte, and its RX phase begins. -/
theorem settle_looped (hp : s.status.phase = .tx) (hb : s.regs.loopback = true) (ho : s.status.op = opTransact)
    (h0 : s.tx.idx = 0) (hf : s.fifo.length ≤ s.params.rxfifoDepth) (hlen : 0 < s.tx.img.length) :
    settle s = settle (startRx (loopedTo s.tx.img.length s)) := by
  obtain ⟨m, hm⟩ : ∃ m, s.tx.img.length = m + 1 := ⟨s.tx.img.length - 1, by omega⟩
  have hinternal (i : Nat) := internalStep_of_tx (s := loopedTo i s) hp hb
  have hbefore := settle_stretch (m := m) (g := fun i => loopedTo i s) fun i hi =>
    ⟨(hinternal i).1, by rw [(hinternal i).2, lbEmit_loopedTo (by omega), if_neg (by omega)]⟩
  have hlast : internalStep (loopedTo m s) = .next (startRx (loopedTo (m + 1) s)) := by
    rw [(hinternal m).2, lbEmit_loopedTo (by omega), if_pos hm.symm]
    exact txDone_transact (s := loopedTo (m + 1) s) ho
  rw [loopedTo_zero h0 hf] at hbefore
  rw [hm, hbefore, settle_of_internalStep (hinternal m).1 hlast]

/-- A complete valid frame ends a TRANSACT (R543, R612). -/
theorem frameDone_transact_of_valid (ho : s.status.op = opTransact)
    (hv : validateImage (rxImage s (rxFlenNat s)) s.regs.cfgVer = (codeOk, false)) :
    frameDone s = .next (transactDone codeOk (recordFrame (codeOk, false) s)) := by
  rw [frameDone_transact ho, hv]

/-- EOI stored after the other bytes of a valid frame ends a TRANSACT (R542). -/
theorem endOfFrame_collectedTo_transact (hv : ValidImage f s.regs.cfgVer) (ho : s.status.op = opTransact) :
    endOfFrame eoi (collectedTo f f.length s) =
      .next (transactDone codeOk (recordFrame (codeOk, false) (frameStored f s))) := by
  have hlong := hv.long
  simp only [minFrame] at hlong
  have hneed : (collectedTo f f.length s).rx.need = f.length := if_neg (by omega)
  rw [endOfFrame_of_eoi rfl, hneed]
  refine frameDone_transact_of_valid (s := frameStored f s) ho ?_
  rw [rxFlenNat_frameStored hv.length_le, rxImage_frameStored]
  exact hv.validateImage

/-- A valid frame at the head of the FIFO ends a TRANSACT's RX phase before any tick. -/
theorem settle_validFrame (hp : s.status.phase = .rx) (ho : s.status.op = opTransact) (h0 : collectedTo f 0 s = s)
    (hf : s.fifo = f ++ rest) (hv : ValidImage f s.regs.cfgVer) :
    settle s = .next (transactDone codeOk (recordFrame (codeOk, false) (frameStored f s))) := by
  have hlong := hv.long
  simp only [minFrame] at hlong
  obtain ⟨m, hm⟩ : ∃ m, f.length = m + 1 := ⟨f.length - 1, by omega⟩
  have hinternal (i : Nat) (hi : i < f.length) :=
    internalStep_of_rx (s := collectedTo f i s) hp (drop_eq_at0_cons hf hi)
  have hbefore := settle_stretch (m := m) (g := fun i => collectedTo f i s) fun i hi =>
    ⟨(hinternal i (by omega)).1, (hinternal i (by omega)).2.trans ?step⟩
  case step =>
    obtain rfl | hi0 := Nat.eq_zero_or_pos i
    · exact rxConsume_collectedTo_zero hv.soi (drop_eq_at0_cons (i := 0) hf (by omega))
    · rw [rxConsume_collectedTo hv.total hf hi0.ne' (by omega), if_neg (by omega)]
  have hlast : internalStep (collectedTo f m s) =
      .next (transactDone codeOk (recordFrame (codeOk, false) (frameStored f s))) := by
    have heoi : at0 f m = eoi := by rw [← hv.eoi, hm]; rfl
    rw [(hinternal m (by omega)).2, rxConsume_collectedTo hv.total hf (by omega) (by omega), if_pos hm.symm, heoi, ← hm]
    exact endOfFrame_collectedTo_transact hv ho
  rw [h0] at hbefore
  rw [hbefore, settle_of_internalStep (hinternal m (by omega)).1 hlast, transactDone_ok]
  exact settle_of_settled rfl

/-- A TRANSACT's RX phase, in which nothing has been stored yet. -/
theorem collectedTo_zero_startRx (f : List Byte) (s : State) : collectedTo f 0 (startRx s) = startRx s := rfl

/-- The FIFO takes in the whole frame where there is room for it. -/
theorem fifo_loopedTo (hf : s.fifo = []) (hd : s.tx.img.length ≤ s.params.rxfifoDepth) :
    (loopedTo s.tx.img.length s).fifo = s.tx.img := by
  rw [loopedTo, hf, List.nil_append, List.take_length, List.take_of_length_le hd]

theorem at0_encodeFrame_cid2 (ver adr c1 c2 : Byte) (p : List Byte) : at0 (encodeFrame ver adr c1 c2 p) 4 = c2 := rfl

/-- Settles O23: the request goes round into the FIFO and from there into RXBUF, where it is a valid frame. -/
theorem loopbackSelfTest : Obligations.LoopbackSelfTest := by
  intro s hb hlb hl hf hn hd n c2
  let v := transmitStart opTransact (txAdr s) (txCid1 s) c2 s
  let w := startRx (loopedTo v.tx.img.length v)
  have hlen : v.tx.img.length = n := length_img_transmitStart opTransact (txAdr s) (txCid1 s) c2 s
  have hv : ValidImage v.tx.img w.regs.cfgVer :=
    validImage_encodeFrame s.regs.cfgVer (txAdr s) (txCid1 s) c2 (by rwa [txPayload_length])
  have hfifo : w.fifo = v.tx.img ++ [] := by
    rw [List.append_nil]
    exact fifo_loopedTo (s := v) hf (hlen.trans_le hd)
  have hrun : runLine (.cmd .transact) s =
      .next (transactDone codeOk (recordFrame (codeOk, false) (frameStored v.tx.img w))) := by
    have hfirst : perform (cmdEvent (encode .transact)) s = .next v :=
      perform_transmit (exec_idle (s := answer .done s) .transact hb) hl hn
    have hempty : v.fifo.length ≤ v.params.rxfifoDepth := by simp [v, transmitStart, hf]
    rw [runLine_cmd hfirst, settle_looped (s := v) rfl hlb rfl rfl hempty (by omega)]
    exact settle_validFrame (s := w) rfl rfl (collectedTo_zero_startRx ..) hfifo hv
  have hcid2 : rxCid2 (recordFrame (codeOk, false) (frameStored v.tx.img w)) = c2 := by
    have hstored : rxbuf (collectedTo v.tx.img v.tx.img.length w) 4 = at0 v.tx.img 4 := rxbuf_collectedTo (by omega)
    rw [recordFrame_eq]
    exact hstored.trans (at0_encodeFrame_cid2 ..)
  refine ⟨_, hrun, runLine_settled hrun, ?_⟩
  rw [transactDone_ok, hcid2, recordFrame_eq]
  refine ⟨rfl, ?image, ?flen, rfl, rfl, rfl, rfl, rfl, rfl, ?fifo⟩
  case image =>
    rw [← hlen]
    exact (rxImage_congr rfl rfl _).trans (rxImage_frameStored v.tx.img w)
  case flen => exact (rxFlenNat_frameStored hv.length_le w).trans hlen
  case fifo =>
    change w.fifo.drop v.tx.img.length = []
    rw [hfifo, List.append_nil, List.drop_length]

end Sys2Proof.Machine
end

section
/-! PROOFS. What can take a flag of INT_STATUS away (10_state.md R115, 60_exceptions.md R720, R721):
`Obligations.FlagsClearedOnlyByHost`.

Every operation of the block but the host's write to INT_STATUS and reset leaves set flags set (`KeepsFlags`); `step_flags` says
so of every step. -/

namespace Sys2Proof.Machine

variable {s t u : State}

/-- Every flag that is 1 in `s` is 1 in `t`. -/
def KeepsFlags (s t : State) : Prop := ∀ k, s.intStatus.getLsbD k = true → t.intStatus.getLsbD k = true

theorem KeepsFlags.of_same (h : t.intStatus = s.intStatus := by simp) : KeepsFlags s t := fun k hk => by rwa [h]

theorem KeepsFlags.of_sets (m : BitVec 6) (h : t.intStatus = s.intStatus ||| m := by simp) : KeepsFlags s t := fun k hk => by
  rw [h, BitVec.getLsbD_or, hk, Bool.true_or]

theorem KeepsFlags.trans (hsu : KeepsFlags s u) (hut : KeepsFlags u t) : KeepsFlags s t := fun k hk => hut k (hsu k hk)

/-- What has been done before may be anything that leaves INT_STATUS alone. -/
theorem KeepsFlags.after (h : KeepsFlags u t) (hu : u.intStatus = s.intStatus := by simp) : KeepsFlags s t :=
  (of_same hu).trans h

/-- A command that ends sets flags and clears none (41_transport.md R520). -/
theorem keepsFlags_finish (code : Byte) (s : State) : KeepsFlags s (finish code s) := .of_sets (finishFlags code)

theorem KeepsFlags.finish (h : KeepsFlags s u) (code : Byte) : KeepsFlags s (finish code u) :=
  h.trans (keepsFlags_finish code u)

theorem keepsFlags_rejectCommand (s : State) : KeepsFlags s (rejectCommand s) := .of_sets flagCmdRej

/-! ### Commands (41_transport.md R510 to R514) -/

theorem keepsFlags_illegalCommand (op : BitVec 4) (s : State) : KeepsFlags s (illegalCommand op s) := by
  unfold illegalCommand
  split_ifs
  · exact keepsFlags_rejectCommand s
  · exact (keepsFlags_finish _ _).after

theorem keepsFlags_openLine (s : State) : KeepsFlags s (openLine s) := by
  cases hl : s.status.link with
  | connected =>
    rw [openLine_connected hl]
    exact keepsFlags_finish _ s
  | connecting =>
    rw [openLine_connecting hl]
    exact .of_same
  | disconnected =>
    rw [openLine_disconnected hl]
    exact .of_sets flagLinkChg

theorem keepsFlags_disconnectLine (s : State) : KeepsFlags s (disconnectLine s) := by
  unfold disconnectLine
  obtain ⟨-, he⟩ | ⟨-, he⟩ := closeLine_cases (acceptCommand opDisconnect s) <;> rw [he]
  · exact .of_same
  · exact .of_sets flagLinkChg

theorem keepsFlags_startTransmit (adr c1 c2 : Byte) (s : State) : KeepsFlags s (startTransmit adr c1 c2 s) := by
  obtain ⟨-, he⟩ | ⟨-, -, he⟩ | ⟨-, -, he⟩ := startTransmit_cases adr c1 c2 s <;> rw [he]
  · exact keepsFlags_finish _ s
  · exact keepsFlags_finish _ s
  · exact .of_same

theorem keepsFlags_startReceive (s : State) : KeepsFlags s (startReceive s) := by
  unfold startReceive
  split_ifs
  · exact keepsFlags_finish _ s
  · exact .of_same

theorem keepsFlags_validateRxbuf (s : State) : KeepsFlags s (validateRxbuf s) := by
  unfold validateRxbuf
  split_ifs
  · exact keepsFlags_finish _ s
  · exact (keepsFlags_finish _ _).after rfl

theorem keepsFlags_exec {i : Instr} (h : exec i s = .next t) : KeepsFlags s t := by
  obtain ⟨-, -, he⟩ | ⟨-, -, -, he⟩ | ⟨-, he⟩ := exec_next i s <;> rw [he] at h <;> cases h
  · exact keepsFlags_rejectCommand s
  · exact (keepsFlags_disconnectLine s).finish _
  · cases i with
    | nop => exact .of_same
    | connect => exact (keepsFlags_openLine _).after
    | disconnect => exact (keepsFlags_disconnectLine s).finish _
    | send => exact (keepsFlags_startTransmit _ _ _ _).after
    | receive => exact (keepsFlags_startReceive _).after
    | transact => exact (keepsFlags_startTransmit _ _ _ _).after
    | respond rtn => exact (keepsFlags_startTransmit _ _ _ _).after
    | validate => exact (keepsFlags_validateRxbuf _).after

theorem keepsFlags_cmdWrite {w : Word} (h : cmdWrite w s = .next t) : KeepsFlags s t := by
  obtain ⟨i, -, he⟩ | ⟨-, -, he⟩ := cmdWrite_cases w s <;> rw [he] at h
  · exact keepsFlags_exec h
  · cases h
    exact keepsFlags_illegalCommand _ s

/-! ### The host's writes (20_memory.md R206) -/

theorem keepsFlags_bufWrite (locked : Bool) (a n : Nat) (v : Word) (s : State) : KeepsFlags s (bufWrite locked a n v s) := by
  unfold bufWrite
  split_ifs
  · exact .of_sets flagBufViol
  · exact .of_same

/-- Of the registers only INT_STATUS is written by clearing flags (R115). -/
theorem keepsFlags_regWrite {off : Nat} (hoff : off ≠ 0x014) (v : Word) (s : State) : KeepsFlags s (regWrite off v s) := by
  unfold regWrite
  split
  case h_2 => exact absurd rfl hoff
  case h_12 =>
    unfold writeRxFlen
    split_ifs
    · exact .of_sets flagBufViol
    · exact .of_same
  all_goals exact .of_same rfl

/-- A host write clears exactly the flags it names, in a 4-byte write to INT_STATUS, or none (R721). -/
theorem hostWrite_flags {a : BitVec 16} {n : Nat} {v : Word} (h : hostWrite a n v s = .next t) :
    KeepsFlags s t ∨ (a = 0x0014#16 ∧ n = 4 ∧ t.intStatus = s.intStatus &&& ~~~(v.setWidth 6)) := by
  obtain ⟨-, he⟩ | ⟨-, -, -, he⟩ | ⟨-, hr, -, he⟩ | ⟨-, -, he⟩ | ⟨-, -, he⟩ := hostWrite_cases a n v s <;> rw [he] at h
  · cases h
    exact .inl .of_same
  · exact .inl (keepsFlags_cmdWrite h).after
  · cases h
    by_cases hoff : a.toNat = 0x014
    · exact .inr ⟨BitVec.eq_of_toNat_eq hoff, width_of_regionOf_reg hr, by rw [hoff]; rfl⟩
    · exact .inl (keepsFlags_regWrite hoff v _).after
  · cases h
    exact .inl (keepsFlags_bufWrite _ _ _ _ _).after
  · cases h
    exact .inl (keepsFlags_bufWrite _ _ _ _ _).after

/-! ### The FIFO and transmission (41_transport.md R523, R530 to R532) -/

theorem keepsFlags_pushFifo (b : Byte) (s : State) : KeepsFlags s (pushFifo b s) := by
  obtain ⟨-, he⟩ | ⟨-, he⟩ := pushFifo_cases b s <;> rw [he]
  · exact .of_sets flagOverrun
  · exact .of_same

theorem keepsFlags_rxByte (b : Byte) (s : State) : KeepsFlags s (rxByte b s) := by
  unfold rxByte
  split_ifs
  · exact .of_same
  · exact keepsFlags_pushFifo b s

theorem keepsFlags_txDone (h : txDone s = .next t) : KeepsFlags s t := by
  obtain ⟨-, rfl⟩ | ⟨-, rfl⟩ | ⟨-, rfl⟩ := txDone_next h
  · exact keepsFlags_finish _ s
  · exact .of_same
  · exact keepsFlags_finish _ s

theorem keepsFlags_advanceTx (h : advanceTx s = .next t) : KeepsFlags s t := by
  obtain ⟨-, hd⟩ | ⟨-, rfl⟩ := advanceTx_next h
  · exact (keepsFlags_txDone hd).after
  · exact .of_same

theorem keepsFlags_txAccept (h : txAccept s = .next t) : KeepsFlags s t := by
  obtain ⟨b, -, ha⟩ := txAccept_next h
  exact (keepsFlags_advanceTx ha).after

theorem keepsFlags_lbEmit (h : lbEmit s = .next t) : KeepsFlags s t := by
  obtain ⟨b, -, ha⟩ := lbEmit_next h
  exact (keepsFlags_pushFifo b s).trans (keepsFlags_advanceTx ha)

/-! ### Reception (41_transport.md R540 to R544, 42_engine.md R612) -/

theorem keepsFlags_receiveDone (code : Byte) (s : State) : KeepsFlags s (receiveDone code s) := by
  unfold receiveDone
  split_ifs
  · exact .of_same rfl
  · exact keepsFlags_finish _ s

theorem keepsFlags_transactDone (code : Byte) (s : State) : KeepsFlags s (transactDone code s) := by
  unfold transactDone
  dsimp only
  split_ifs <;> exact (keepsFlags_finish _ _).after rfl

theorem keepsFlags_frameDone (h : frameDone s = .next t) : KeepsFlags s t := by
  have hrecord (v : Byte × Bool) : (recordFrame v s).intStatus = s.intStatus := by rw [recordFrame_eq]
  obtain ⟨-, rfl⟩ | ⟨-, rfl⟩ := frameDone_next h
  · exact (keepsFlags_receiveDone _ _).after (hrecord _)
  · exact (keepsFlags_transactDone _ _).after (hrecord _)

theorem storeByte_intStatus (b : Byte) (s : State) : (storeByte b s).intStatus = s.intStatus := by
  obtain ⟨need, he, -⟩ := storeByte_eq b s
  rw [he]
  rfl

theorem keepsFlags_collect {b : Byte} (h : collect b s = .next t) : KeepsFlags s t := by
  have hstore : (storeByte b s).intStatus = s.intStatus := storeByte_intStatus b s
  obtain ⟨-, ⟨-, he⟩ | ⟨-, rfl⟩⟩ := collect_next h
  · obtain ⟨-, rfl⟩ | ⟨-, hd⟩ := endOfFrame_next he
    · exact .of_same hstore
    · exact (keepsFlags_frameDone hd).after hstore
  · exact .of_same hstore

theorem keepsFlags_hunt (b : Byte) (s : State) : KeepsFlags s (hunt b s) := by
  unfold hunt
  split_ifs <;> exact .of_same

theorem keepsFlags_rxConsume (h : rxConsume s = .next t) : KeepsFlags s t := by
  obtain ⟨-, rfl⟩ | ⟨b, rest, -, ⟨-, rfl⟩ | ⟨-, hc⟩⟩ := rxConsume_next h
  · exact .of_same
  · exact (keepsFlags_hunt b _).after
  · exact (keepsFlags_collect hc).after

theorem keepsFlags_internalStep (he : internalEnabled s = true) (h : internalStep s = .next t) : KeepsFlags s t := by
  obtain ⟨-, hs⟩ | ⟨-, hs⟩ := internalStep_cases he <;> rw [hs] at h
  · exact keepsFlags_rxConsume h
  · exact keepsFlags_lbEmit h

/-! ### The link and the tick (41_transport.md R501 to R504, R545 to R547) -/

theorem keepsFlags_openOk (s : State) : KeepsFlags s (openOk s) := by
  have hmove : KeepsFlags s (setArmed true (clearFifo (moveLink .connected s))) := .of_sets flagLinkChg
  unfold openOk
  dsimp only
  split_ifs
  · exact hmove.finish _
  · exact hmove

theorem keepsFlags_openFail (s : State) : KeepsFlags s (openFail s) := by
  have hmove : KeepsFlags s (clearReconn (clearFifo (moveLink .disconnected s))) := .of_sets flagLinkChg
  unfold openFail
  dsimp only
  split_ifs
  · exact (hmove.trans .of_same).finish _
  · exact hmove

theorem keepsFlags_ioError (h : ioError s = .next t) : KeepsFlags s t := by
  have hdrop : KeepsFlags s (dropLine s) := .of_sets flagLinkChg rfl
  obtain ⟨-, -, rfl⟩ | ⟨-, -, rfl⟩ | ⟨-, rfl⟩ | ⟨-, rfl⟩ := ioError_next h
  · exact (hdrop.trans (.of_same rfl)).finish _
  · exact hdrop.finish _
  · exact hdrop.finish _
  · exact hdrop

theorem keepsFlags_tickReconn (s : State) : KeepsFlags s (tickReconn s) := by
  unfold tickReconn
  dsimp only
  split_ifs
  · exact .of_sets flagLinkChg
  · exact .of_same
  · exact .of_same

theorem keepsFlags_timeoutFinish (h : timeoutFinish s = .next t) : KeepsFlags s t := by
  obtain ⟨-, rfl⟩ | ⟨-, rfl⟩ := timeoutFinish_next h <;> exact keepsFlags_finish _ s

theorem keepsFlags_readTimeout (h : readTimeout s = .next t) : KeepsFlags s t := by
  rw [readTimeout_eq] at h
  split_ifs at h
  · exact (keepsFlags_timeoutFinish h).after rfl
  · cases h
    exact .of_same rfl

theorem keepsFlags_tickRx (h : tickRx s = .next t) : KeepsFlags s t := by
  by_cases hd : DeadlinePassed s
  · have hend : tickRx s = timeoutFinish _ := (if_pos hd).trans (frameDeadline_eq _)
    exact (keepsFlags_timeoutFinish (hend.symm.trans h)).after rfl
  · by_cases hr : ReadExpired s
    · rw [tickRx_of_expired hd hr] at h
      exact (keepsFlags_readTimeout h).after rfl
    · rw [tickRx_of_waiting hd hr] at h
      cases h
      exact .of_same rfl

theorem keepsFlags_tick (h : tick s = .next t) : KeepsFlags s t := by
  unfold tick at h
  split_ifs at h
  · exact (keepsFlags_tickReconn s).trans (keepsFlags_tickRx h)
  · cases h
    exact keepsFlags_tickReconn s

/-! ### Every step -/

/-- What any step does to the flags: none is cleared, or the host's write clears those it names, or it is reset. -/
theorem step_flags (h : step s = .next t) : KeepsFlags s t ∨
    (∃ v, nextEvent s = .hostWrite 0x0014#16 4 v ∧ t.intStatus = s.intStatus &&& ~~~(v.setWidth 6)) ∨
    nextEvent s = .reset := by
  obtain ⟨-, he, hs⟩ | ⟨a, n, -, hs⟩ | ⟨a, n, v, hn, hs⟩ | ⟨b, -, hs⟩ | ⟨-, hs⟩ | ⟨-, hs⟩ | ⟨-, hs⟩ | ⟨-, hs⟩ |
    ⟨-, -, hs⟩ | ⟨-, hs⟩ | ⟨-, hs⟩ | ⟨hn, hs⟩ | hs := step_cases s <;> rw [hs] at h
  · exact .inl (keepsFlags_internalStep he h)
  · cases h
    exact .inl (.of_same (takeEvent_intStatus (s := s)))
  · obtain hk | ⟨rfl, rfl, hc⟩ := hostWrite_flags h
    · exact .inl hk.after
    · exact .inr (.inl ⟨v, hn, by rw [hc, takeEvent_intStatus]⟩)
  · cases h
    exact .inl (keepsFlags_rxByte b _).after
  · exact .inl (keepsFlags_txAccept h).after
  · cases h
    exact .inl (keepsFlags_openOk _).after
  · cases h
    exact .inl (keepsFlags_openFail _).after
  · exact .inl (keepsFlags_ioError h).after
  · exact .inl (keepsFlags_tick h).after
  · exact .inl (keepsFlags_rxConsume h).after
  · exact .inl (keepsFlags_lbEmit h).after
  · exact .inr (.inr hn)
  · cases h
    exact .inl .of_same

/-- A flag is lost to a mask only where the mask's bit is 1. -/
theorem getLsbD_of_cleared {x : BitVec 6} {v : Word} {k : Nat} (hx : x.getLsbD k = true)
    (hc : (x &&& ~~~(v.setWidth 6)).getLsbD k = false) : v.getLsbD k = true := by
  have hk : k < 6 := BitVec.lt_of_getLsbD hx
  simpa [hx, hk] using hc

/-- Settles O45: the write is `clearFlags`, and of the three cases of `step_flags` the first takes no flag away. -/
theorem flagsClearedOnlyByHost : Obligations.FlagsClearedOnlyByHost := by
  refine ⟨fun s v hn => ?write, fun s t k h hs ht => ?cleared⟩
  case write =>
    rw [step_of_nextEvent hn (by simp), perform, hostWrite_reg (by decide) (by decide) (by decide),
      ← takeEvent_intStatus (s := s)]
    rfl
  case cleared =>
    obtain hk | ⟨v, hn, hc⟩ | hn := step_flags h
    · simp [hk k hs] at ht
    · exact .inr ⟨v, hn, getLsbD_of_cleared hs (hc ▸ ht)⟩
    · exact .inl hn

end Sys2Proof.Machine
end

section
/-! PROOFS. Reset (70_reset_and_hazards.md R800 to R802): the state it leaves and the step itself, `Obligations.ResetState`,
`Obligations.ResetStep`, and that only a CONNECT brings the block out of it, `Obligations.ResetStaysDisconnected`.

An idle block whose line is closed and not ARMED is `State.Down`. Every step but a CONNECT leaves it down, puts nothing out to the
PHY and takes one choice (`step_staysDown`); a run is that lemma by induction on its length. -/

namespace Sys2Proof.Machine

variable {s t u : State} {i : Instr} {code : Byte}

/-! ### The state after reset and the reset step (R800, R801) -/

/-- Settles O56: each register computes from the reset values, but for RX_LENFIELD, whose LCHK_CALC is that of the LENID it shows
whatever bytes were drawn. -/
theorem resetState : Obligations.ResetState := by
  refine ⟨?registers, ?lchkCalc, rfl, rfl, rfl, rfl, rfl, rfl, fun a => rfl⟩
  case registers =>
    simp only [List.forall_mem_cons, List.not_mem_nil, false_imp_iff, implies_true, and_true]
    and_intros <;> rfl
  case lchkCalc =>
    obtain ⟨hlen, -, hcalc, -⟩ := rxLenFieldWord_fields State.reset
    exact hcalc.trans (congrArg (fun n => lchk n.toNat) hlen.symm)

/-- Settles O57: the step is `resetStep`, which takes the next number for the draws of the buffer bytes. -/
theorem resetStep_resets : Obligations.ResetStep := by
  intro s hn
  refine ⟨resetStep (takeEvent s), step_of_nextEvent hn (by simp), ?state, ?fresh, fun a => rfl, rfl, rfl⟩
  case state =>
    rw [← takeEvent_params s, ← takeEvent_phyOut s]
    rfl
  case fresh =>
    have hepoch : (resetStep (takeEvent s)).epoch = s.epoch + 1 := congrArg (· + 1) (takeEvent_epoch s)
    omega

/-! ### A block that is down (R802) -/

/-- No command runs, the line is closed, and no automatic attempt is due. -/
structure State.Down (s : State) : Prop where
  busy : s.status.busy = false
  phase : s.status.phase = .none
  link : s.status.link = .disconnected
  armed : s.status.armed = false

/-- `t` is down, with nothing put out since `s` and the same choices waiting. -/
structure StaysDown (s t : State) : Prop where
  down : t.Down
  phyOut : t.phyOut = s.phyOut
  inbox : t.inbox = s.inbox

theorem State.Down.stays (h : s.Down) : StaysDown s s := ⟨h, rfl, rfl⟩

theorem StaysDown.of_status (h : s.Down) (hs : t.status = s.status := by simp) (ho : t.phyOut = s.phyOut := by simp)
    (hi : t.inbox = s.inbox := by simp) : StaysDown s t :=
  ⟨⟨hs ▸ h.busy, hs ▸ h.phase, hs ▸ h.link, hs ▸ h.armed⟩, ho, hi⟩

theorem StaysDown.of_finish (h : s.Down) (hl : u.status.link = s.status.link := by simp)
    (ha : u.status.armed = s.status.armed := by simp) (ho : u.phyOut = s.phyOut := by simp)
    (hi : u.inbox = s.inbox := by simp) : StaysDown s (finish code u) :=
  ⟨⟨rfl, rfl, hl.trans h.link, ha.trans h.armed⟩, ho, hi⟩

/-- What has been done before may be anything that puts nothing out and takes no choice. -/
theorem StaysDown.after (h : StaysDown u t) (ho : u.phyOut = s.phyOut := by simp) (hi : u.inbox = s.inbox := by simp) :
    StaysDown s t :=
  ⟨h.down, h.phyOut.trans ho, h.inbox.trans hi⟩

theorem State.Down.link_ne_connected (h : s.Down) : s.status.link ≠ .connected := by simp [h.link]

theorem State.Down.takeEvent (h : s.Down) : (takeEvent s).Down := by
  obtain ⟨hb, hp, hl, ha⟩ := h
  exact ⟨by simpa using hb, by simpa using hp, by simpa using hl, by simpa using ha⟩

theorem State.Down.internalEnabled (h : s.Down) : internalEnabled s = false := by
  simp [Machine.internalEnabled, rxConsumeEnabled, lbEmitEnabled, h.phase]

/-! ### The host's accesses to a block that is down -/

/-- Without a link a transmitting command ends at once (41_transport.md R513). -/
theorem startTransmit_of_not_connected (hl : s.status.link ≠ .connected) (adr c1 c2 : Byte) :
    startTransmit adr c1 c2 s = finish codeNotConnected s := if_pos hl

theorem validateRxbuf_staysDown (h : s.Down) : StaysDown s (validateRxbuf (acceptCommand opValidate s)) := by
  unfold validateRxbuf
  split_ifs <;> exact .of_finish h

/-- DISCONNECT closes no line that is not open (41_transport.md R512). -/
theorem disconnect_staysDown (h : s.Down) : StaysDown s (finish code (disconnectLine s)) := by
  rw [finish_disconnectLine, if_pos h.link]
  exact ⟨⟨rfl, rfl, rfl, rfl⟩, if_pos h.link, rfl⟩

/-- Of the commands CONNECT alone does more than finish at once. -/
theorem accepted_staysDown (h : s.Down) (hi : i ≠ .connect) : StaysDown s (accepted i s) := by
  have transmit (op : BitVec 4) (adr c1 c2 : Byte) : StaysDown s (startTransmit adr c1 c2 (acceptCommand op s)) := by
    rw [startTransmit_of_not_connected (by simpa using h.link_ne_connected)]
    exact .of_finish h
  cases i with
  | nop => exact h.stays
  | connect => exact absurd rfl hi
  | disconnect => exact disconnect_staysDown h
  | send => exact transmit ..
  | receive =>
    rw [accepted, startReceive_of_not_connected (by simpa using h.link_ne_connected)]
    exact .of_finish h
  | transact => exact transmit ..
  | respond rtn => exact transmit ..
  | validate => exact validateRxbuf_staysDown h

theorem illegalCommand_staysDown (h : s.Down) (op : BitVec 4) : StaysDown s (illegalCommand op s) := by
  unfold illegalCommand
  split_ifs
  · exact .of_status h
  · exact .of_finish h

theorem cmdWrite_staysDown {w : Word} (h : s.Down) (hw : w ≠ encode .connect) (ht : cmdWrite w s = .next t) :
    StaysDown s t := by
  obtain ⟨i, hd, hc⟩ | ⟨-, -, hc⟩ := cmdWrite_cases w s <;> rw [hc] at ht
  · obtain rfl := (decode_eq_instr_iff i).1 hd
    rw [exec_idle i h.busy] at ht
    cases ht
    exact accepted_staysDown h fun hi => hw (congrArg encode hi)
  · cases ht
    exact illegalCommand_staysDown h _

theorem bufWrite_staysDown (h : s.Down) (locked : Bool) (a n : Nat) (v : Word) : StaysDown s (bufWrite locked a n v s) := by
  unfold bufWrite
  split_ifs <;> exact .of_status h

theorem regWrite_staysDown (h : s.Down) (off : Nat) (v : Word) : StaysDown s (regWrite off v s) := by
  obtain ⟨_, _, _, _, he, -⟩ := regWrite_eq off v s
  rw [he]
  exact .of_status h rfl rfl rfl

theorem hostWrite_staysDown {a : BitVec 16} {n : Nat} {v : Word} (h : s.Down)
    (hne : Event.hostWrite a n v ≠ cmdEvent (encode .connect)) (ht : hostWrite a n v s = .next t) : StaysDown s t := by
  have hd : StaysDown s (answer .done s) := .of_status h
  obtain ⟨-, he⟩ | ⟨-, hr, rfl, he⟩ | ⟨-, -, -, he⟩ | ⟨-, -, he⟩ | ⟨-, -, he⟩ := hostWrite_cases a n v s <;> rw [he] at ht
  · cases ht
    exact .of_status h
  · obtain rfl := width_of_regionOf_reg hr
    exact (cmdWrite_staysDown hd.down (fun hv => hne (by rw [hv]; rfl)) ht).after
  · cases ht
    exact (regWrite_staysDown hd.down _ _).after
  · cases ht
    exact (bufWrite_staysDown hd.down _ _ _ _).after
  · cases ht
    exact (bufWrite_staysDown hd.down _ _ _ _).after

/-! ### Every step, and every run -/

theorem resetStep_staysDown (s : State) : StaysDown s (resetStep s) := ⟨⟨rfl, rfl, rfl, rfl⟩, rfl, rfl⟩

theorem rxByte_of_down (h : s.Down) (b : Byte) : rxByte b s = s := if_pos (.inl h.link_ne_connected)

/-- No automatic attempt is made, as ARMED = 0 (41_transport.md R503), and no RX phase is running. -/
theorem tick_of_down (h : s.Down) : tick s = .next s := by
  simp [tick, tickReconn, h.phase, h.armed]

/-- Whatever step is chosen but a CONNECT, it is taken and the block is down after it. -/
theorem step_staysDown (h : s.Down) (hn : nextEvent s ≠ cmdEvent (encode .connect)) (ht : step s = .next t) :
    StaysDown (takeEvent s) t := by
  have hd := h.takeEvent
  obtain ⟨-, he, -⟩ | ⟨a, n, -, hs⟩ | ⟨a, n, v, hw, hs⟩ | ⟨b, -, hs⟩ | ⟨he, -⟩ | ⟨hl, -⟩ | ⟨hl, -⟩ | ⟨hl, -⟩ | ⟨-, -, hs⟩ |
    ⟨he, -⟩ | ⟨he, -⟩ | ⟨-, hs⟩ | hs := step_cases s
  · simp [h.internalEnabled] at he
  · cases hs.symm.trans ht
    exact .of_status hd rfl rfl rfl
  · exact hostWrite_staysDown hd (hw ▸ hn) (hs.symm.trans ht)
  · rw [rxByte_of_down hd] at hs
    cases hs.symm.trans ht
    exact hd.stays
  · exact absurd (phase_of_txAcceptEnabled he) (by simp [h.phase])
  · simp [h.link] at hl
  · simp [h.link] at hl
  · simp [h.link] at hl
  · rw [tick_of_down hd] at hs
    cases hs.symm.trans ht
    exact hd.stays
  · exact absurd (phase_of_rxConsumeEnabled he) (by simp [h.phase])
  · exact absurd (phase_of_lbEmitEnabled he) (by simp [h.phase])
  · cases hs.symm.trans ht
    exact resetStep_staysDown _
  · cases hs.symm.trans ht
    exact hd.stays

/-- The first step of a run that ends in a state, and the rest of it. -/
theorem run_succ_next (M : Host.Core) {s t : M.State} {k : Nat} (h : M.run (k + 1) s = .next t) :
    ∃ u, M.step s = .next u ∧ M.run k u = .next t := by
  cases hs : M.step s with
  | next u => exact ⟨u, rfl, run_succ M hs k ▸ h⟩
  | fault r => simp [Host.Core.run, hs] at h
  | refused r => simp [Host.Core.run, hs] at h

/-- A run of chosen steps without a CONNECT. -/
theorem runSteps_down {es : List Event} {k : Nat} (h : s.Down) (hc : cmdEvent (encode .connect) ∉ es) (hk : k ≤ es.length)
    (ht : runSteps es k s = .next t) : t.Down ∧ t.phyOut = s.phyOut := by
  induction k generalizing es s with
  | zero =>
    cases ht
    exact ⟨{ h with }, rfl⟩
  | succ k ih =>
    cases es with
    | nil => simp at hk
    | cons e es =>
      obtain ⟨u, hu, hrest⟩ := run_succ_next Sys2Proof.core ht
      obtain ⟨hd, hout, hin⟩ : StaysDown { s with inbox := es } u :=
        step_staysDown (s := { s with inbox := e :: es }) { h with } (fun he => hc (he ▸ List.mem_cons_self)) hu
      subst hin
      obtain ⟨htd, hto⟩ := ih hd (fun hm => hc (List.mem_cons_of_mem _ hm)) (by simpa using hk) hrest
      exact ⟨htd, hto.trans hout⟩

theorem LaunchReset.down {depth : Nat} {ver : Byte} (h : LaunchReset depth ver s) : s.Down := by
  obtain ⟨epoch, inbox, draws, phyOut, busResp, rfl⟩ := h.exists_eq
  exact ⟨rfl, rfl, rfl, rfl⟩

/-- Settles O28: a `LaunchReset` state is down, and so is every state of a run without a CONNECT. -/
theorem resetStaysDisconnected : Obligations.ResetStaysDisconnected := by
  intro depth ver s t es k h
  obtain ⟨hb, -, hl, ha⟩ := h.down
  refine ⟨hb, hl, ha, fun hc hk ht => ?_⟩
  obtain ⟨⟨hb', -, hl', ha'⟩, hout⟩ := runSteps_down h.down hc hk ht
  exact ⟨hb', hl', ha', hout⟩

end Sys2Proof.Machine
end
